-- ==== Sys2Proof/Word.lean ====
section
/-! DEFINITION. Word.lean: the plain types that every other file speaks of: bytes, port numbers, cell numbers. -/

namespace Sys2Proof

/-- One byte. -/
abbrev Byte := BitVec 8

/-- A 32-bit word of the host bus or of a system stream port (R182, R188). -/
abbrev Word := BitVec 32

/-- A port number, 0 to 7 (chapter 0, "Port numbering"). -/
abbrev PortId := Fin 8

/-- A cell number of the pool, 0 to 4095 (R99). -/
abbrev CellNo := Fin 4096

/-- The eight ports, in ascending order. -/
def allPorts : List PortId := [0, 1, 2, 3, 4, 5, 6, 7]

/-- Every port stands in the list of all ports. -/
theorem mem_allPorts (n : PortId) : n ∈ allPorts := by
  revert n; decide

end Sys2Proof
end

