-- ==== Sys2Proof/Syntax.lean ====
section
/-! DEFINITION. Syntax.lean: the commands of the block, one constructor for each row of spec/opcode_table.json.
The table gives no row any operand bits; the operands here are those the row's rule speaks of: the port, the
symbol's content, the word written. -/

namespace Sys2Proof

/-- A flags or enables location of the register window: a port's, or the device's (R175, R176). -/
inductive FlagLoc where
  | port (n : PortId)
  | device
  deriving DecidableEq, Repr

/-- One access of the host bus: a read, or a write with its four byte lanes (R179, R182). -/
inductive HostAccess where
  | read (offset : BitVec 12)
  | write (offset : BitVec 12) (lanes : BitVec 4) (value : Word)
  deriving DecidableEq, Repr

/-- How a received line frame ends (R13, R189): with the two bytes of its check sequence, most significant byte
first, and its frame-end symbol, with the error mark, or at a symbol that is not valid inside a frame. That such a symbol
ends the frame at once is the model's choice (log entry 31): R13 says only that it is a line error. -/
inductive RxEnd where
  | normal (hi lo : Byte)
  | errorMark
  | badSymbol
  deriving DecidableEq, Repr

/-- A received ADVERT or ECHO after its type byte: its body byte by byte, and the two bytes of its check sequence, most
significant byte first (R189). -/
structure MgmtFrame where
  body : List Byte
  hi : Byte
  lo : Byte
  deriving DecidableEq, Repr

/-- Length and tag of a received DATA frame, bytes 1 to 3 of its body (R189). -/
structure RxHeader where
  length : BitVec 16
  tag : Byte
  deriving DecidableEq, Repr

/-- The commands and events of the part, in the order of spec/opcode_table.json. -/
inductive Instr where
  /-- PIN_RESET (R170): RESETN is asserted. -/
  | pinReset
  /-- RESETN_RELEASE (R170): RESETN is released. -/
  | resetnRelease
  /-- SIGNAL_PRESENT (R2): the receive pair of port n shows activity. -/
  | signalPresent (n : PortId)
  /-- SIGNAL_LOST (R5): the receive pair of port n falls quiet. -/
  | signalLost (n : PortId)
  /-- ACQUIRE_TIMER_EXPIRY (R3). -/
  | acquireTimerExpiry (n : PortId)
  /-- RESTART_TIMER_EXPIRY (R7). -/
  | restartTimerExpiry (n : PortId)
  /-- RECEIVE_IDL (R15): an IDL symbol on the line. -/
  | receiveIdl (n : PortId)
  /-- RECEIVE_DIM (R20): a DIM symbol on the line. -/
  | receiveDim (n : PortId)
  /-- RECEIVE_OFD (R26). -/
  | receiveOfd (n : PortId)
  /-- RECEIVE_OFM (R36). -/
  | receiveOfm (n : PortId)
  /-- RECEIVE_RFR (R33). -/
  | receiveRfr (n : PortId)
  /-- RECEIVE_ALR (R57). -/
  | receiveAlr (n : PortId)
  /-- RECEIVE_RDY (R55). -/
  | receiveRdy (n : PortId)
  /-- RX_FRAME_START (R13): a frame-start symbol with its type byte, and for a DATA frame its length and tag
  (`none` where the frame breaks off before they have arrived, R16). A frame that ends before its type byte has
  arrived has no command (log entry 30). -/
  | rxFrameStart (n : PortId) (type : Byte) (header : Option RxHeader)
  /-- RX_FRAME_END (R16). -/
  | rxFrameEnd (n : PortId) (ending : RxEnd)
  /-- RECEIVE_ADVERT (R90): a received ADVERT. -/
  | receiveAdvert (n : PortId) (frame : MgmtFrame)
  /-- RECEIVE_ECHO (R88): a received ECHO. -/
  | receiveEcho (n : PortId) (frame : MgmtFrame)
  /-- SSP_FRAME_START (R106): the opening frame word of an ingress frame (R188). -/
  | sspFrameStart (n : PortId) (opening : Word)
  /-- SSP_FRAME_END (R109): the closing frame word of an ingress frame (R188). -/
  | sspFrameEnd (n : PortId) (closing : Word)
  /-- TRANSMISSION_COMPLETION (R12): the last symbol of the frame in flight has been sent. -/
  | transmissionCompletion (n : PortId)
  /-- RELEASE_EVENT (R130). -/
  | releaseEvent (n : PortId)
  /-- IDLE_TIMER_EXPIRY (R24). -/
  | idleTimerExpiry (n : PortId)
  /-- DEEP_TIMER_EXPIRY (R25). -/
  | deepTimerExpiry (n : PortId)
  /-- OFFER_TIMER_EXPIRY (R28, R38). -/
  | offerTimerExpiry (n : PortId)
  /-- DORMANT_TIMER_EXPIRY (R35). -/
  | dormantTimerExpiry (n : PortId)
  /-- REFRESH_SEND_EXPIRY (R32). -/
  | refreshSendExpiry (n : PortId)
  /-- REFRESH_WATCH_EXPIRY (R34). -/
  | refreshWatchExpiry (n : PortId)
  /-- OFFER_RECORD_LAPSE (R30). -/
  | offerRecordLapse (n : PortId)
  /-- SELF_TIMER_EXPIRY (R51, R53). -/
  | selfTimerExpiry (n : PortId)
  /-- WAIT_TIMER_EXPIRY (R56). -/
  | waitTimerExpiry (n : PortId)
  /-- DEADLINE_TIMER_EXPIRY (R58). -/
  | deadlineTimerExpiry (n : PortId)
  /-- REVIVAL_TIMER_EXPIRY (R64). -/
  | revivalTimerExpiry (n : PortId)
  /-- GRANT (R75): the arbiter tests its grant condition. -/
  | grant
  /-- ECHO_TIMER_EXPIRY (R89). -/
  | echoTimerExpiry (n : PortId)
  /-- AGING_EXPIRY (R134). -/
  | agingExpiry (n : PortId)
  /-- URGENCY_AGE_EXPIRY (R137). -/
  | urgencyAgeExpiry (n : PortId)
  /-- FLUSH_REMOVAL (R118). -/
  | flushRemoval (n : PortId)
  /-- RESTORE_TIMER_EXPIRY (R146). -/
  | restoreTimerExpiry (n : PortId)
  /-- RESIDENCY_TIMER_EXPIRY (R173). -/
  | residencyTimerExpiry
  /-- APPLY (R161). -/
  | apply (n : PortId)
  /-- FORCE_WAKE (R163). -/
  | forceWake (n : PortId)
  /-- FLUSH (R164). -/
  | flush (n : PortId)
  /-- SEND_ADVERT (R86). -/
  | sendAdvert (n : PortId)
  /-- RESTORE_CEILING (R149). -/
  | restoreCeiling (n : PortId)
  /-- CLEAR_COUNTERS (R167). -/
  | clearCounters (n : PortId)
  /-- PORT_RESET (R168). -/
  | portReset (n : PortId)
  /-- UNKNOWN_COMMAND (R158): a command word that names no port command. -/
  | unknownCommand (n : PortId)
  /-- SOFT_RESET (R169). -/
  | softReset
  /-- DEV_CMD_INVALID (R169): a word other than SOFT_RESET written to the device command register. -/
  | devCmdInvalid
  /-- WRITE_W (R70): a word written to WBUDGET. -/
  | writeW (value : Word)
  /-- WRITE_POOL_LOW (R121): a word written to POOL_LOW. -/
  | writePoolLow (value : Word)
  /-- FLAG_CLEAR_WRITE (R175). -/
  | flagClearWrite (loc : FlagLoc) (value : Word)
  /-- ENABLE_WRITE (R176). -/
  | enableWrite (loc : FlagLoc) (value : Word)
  /-- REGISTER_WRITE (R182): a write of all four byte lanes. -/
  | registerWrite (offset : BitVec 12) (value : Word)
  /-- FAULTY_ACCESS (R179): a write to a read-only location, a partial write, or an access to an unmapped
  offset. -/
  | faultyAccess (access : HostAccess)
  /-- INGRESS_BYTE_ARRIVAL (R108). -/
  | ingressByteArrival (n : PortId) (byte : Byte)
  /-- RX_DATA_BYTE (R16): one byte of a received DATA frame, after its length and tag. -/
  | rxDataByte (n : PortId) (byte : Byte)
  deriving DecidableEq, Repr

end Sys2Proof
end

