-- ==== Sys2Proof/Decode.lean ====
section
/-! DEFINITION. Decode.lean: the command that a word spells by the bits of spec/opcode_table.json. -/

namespace Sys2Proof

/-- No row of spec/opcode_table.json gives its command any bits ("fields": [] in every row): the block takes
commands, not encoded words, so no word spells one. -/
def decodeTableWord (_nbits _w : Nat) : Option Instr := none

end Sys2Proof
end

