-- ==== Sys2Proof/Config.lean ====
section
/-! DEFINITION. Config.lean: the constants of the part, and the free values the Guide leaves open. Each free
value is taken at a number of State.draws, which the step then advances, so that no two are tied to each other. -/

namespace Sys2Proof.Config

/-- Duration of the acquire timer, µs (R1: 1 ms). -/
def acquireTime : Nat := 1000
/-- Duration of the restart timer, the restart quiet time, µs (R1: 2 ms). -/
def restartTime : Nat := 2000
/-- Duration of the echo timer, µs (R83: 2 ms). -/
def echoTime : Nat := 2000
/-- Duration of the residency timer, µs (R173). -/
def residencyTime : Nat := 100
/-- Duration of a receiver revival, the DIM self-wake time, µs (R63). -/
def revivalTime : Nat := 2
/-- Distance between two removals of a FLUSH, µs (R118). -/
def flushStep : Nat := 1
/-- Partner time of DIM without a valid partner record, µs (R21, R52). -/
def defaultDimTime : Nat := 50
/-- Number of cells of the pool (R99). -/
def poolCells : Nat := 4096
/-- Bytes of one cell (R99). -/
def cellBytes : Nat := 128
/-- Cells of the largest frame, which the hold-off tests (R103). -/
def largestCells : Nat := 16
/-- Largest number of descriptors of one transmit queue (R113). -/
def maxDescriptors : Nat := 128
/-- Shortest frame in bytes (R106). -/
def minLength : Nat := 64
/-- Longest frame in bytes (R106). -/
def maxLength : Nat := 2048
/-- Number of retries of an ADVERT (R89). -/
def maxRetries : Nat := 3

/-- FREE VALUE (log entry 3). Where several timers are due at one value of the time base, the Guide
lets "either order" be taken (R41, R65, R66, R135 and their like). The k-th such tie is resolved by this
number, of which nothing is known: its remainder picks the expiry that is taken first. -/
opaque tieBreak : Nat → Nat

/-- FREE VALUE (log entry 24). Where a PORT_RESET or SOFT_RESET finds a refresh watch or the deadline of a wake of port n
at its end and not yet taken, the Guide lets "either order" be taken: with the loss first the timer is stopped (R66), and
with the expiry first its report may reach DGV n after the reset's setting (R152). Nothing is known of this choice. -/
opaque failureFirst : Nat → PortId → Bool

end Sys2Proof.Config
end

