-- ==== Sys2Proof/Machine/State.lean ====
section
/-! DEFINITION. Machine/State.lean: everything the Guide gives the device, as plain data, block by block
(chapter 0, "Overview of the blocks"), and the state after reset. A timer is `none` while stopped and
`some t` while it runs with its expiry at time-base value t (chapter 0, "Time base"). -/

namespace Sys2Proof.Machine

/-- Reasons for the device to stop with a fault. There is none: every rule of the Guide gives every command
an effect, or says that it is ignored, in every state. -/
inductive Fault where
  deriving DecidableEq, Repr

/-- Reasons to refuse a command. -/
inductive Refusal where
  /-- A command without a meaning in this model, by its mnemonic; only an arm of `exec` may raise it, and no
  arm does. Safe: a refused command proves nothing about the device. -/
  | notModelled (mnemonic : String)
  deriving DecidableEq, Repr

/-! ## Line Port Engine (chapter 1) -/

/-- Link state (R1). -/
inductive LinkState where
  | down | acquiring | up | restart
  deriving DecidableEq, Repr

/-- The two fill words (section 1.3). -/
inductive Fill where
  | idl | dim
  deriving DecidableEq, Repr

/-- The five one-shot control words (section 1.3). -/
inductive OneShot where
  | ofd | ofm | rfr | alr | rdy
  deriving DecidableEq, Repr

/-- How far the system frame of a bypass frame in flight has come (R110): still running, ended clean, or
ended with abort or mismatch, in which case the line frame ends with the error mark. -/
inductive BypassEnd where
  | running | clean | errored
  deriving DecidableEq, Repr

/-- Kind of the frame in flight (R1); an ADVERT with the seq it carries (R87). -/
inductive TxKind where
  | queued
  | bypass (ending : BypassEnd)
  | advert (seq : BitVec 4)
  | echo
  deriving DecidableEq, Repr

/-- Transmitter state (R1); `check` is the check sequence over what has been sent of the frame (R12). -/
inductive Transmitter where
  | idle
  | busy (kind : TxKind) (check : BitVec 16)
  deriving DecidableEq, Repr

/-- State of LPE n (R1). -/
structure Lpe where
  link : LinkState := .down
  acquire : Option Nat := none
  restart : Option Nat := none
  tx : Transmitter := .idle
  /-- Last fill record, `none` for NONE (R15). -/
  lastFill : Option Fill := none
  /-- Signal level of the receiver, true for present. -/
  signal : Bool := false
  deriving DecidableEq, Repr

/-! ## Power State Controller (chapters 2 and 3) -/

/-- Depths as levels of the ceiling and of max_ceiling (chapter 0, "Sleep depths"). -/
inductive Depth where
  | none | dim | deep | dormant
  deriving DecidableEq, Repr

/-- The depths a port may sleep in. -/
inductive SleepDepth where
  | dim | deep | dormant
  deriving DecidableEq, Repr

/-- The depths that both ends sleep in together. -/
inductive JointDepth where
  | deep | dormant
  deriving DecidableEq, Repr

/-- Receive state (section 2.1). -/
inductive RS where
  | awake | listen | reviving | joint
  deriving DecidableEq, Repr

/-- The GRANT-WAIT record (R18). -/
structure GrantWait where
  fromDepth : JointDepth
  waitDepth : JointDepth
  deriving DecidableEq, Repr

/-- Which end started a wake (R47). -/
inductive Origin where
  | localEnd | partner
  deriving DecidableEq, Repr

/-- Phase of a wake (R47). -/
inductive Phase where
  | self | partner
  deriving DecidableEq, Repr

/-- The wake record with its three timers (R47). -/
structure WakeRecord where
  origin : Origin
  selfDepth : SleepDepth
  waitDepth : SleepDepth
  phase : Phase
  budgeted : Bool
  alertSeen : Bool
  readySeen : Bool
  selfDuration : Nat
  waitDuration : Option Nat
  deadlineDuration : Option Nat
  selfTimer : Option Nat
  waitTimer : Option Nat
  deadlineTimer : Option Nat
  deriving DecidableEq, Repr

/-- Power state (section 2.1). The GRANT-WAIT record and the wake record are present exactly while PS is
GRANT-WAIT or WAKING (R18, R47), so they stand in the value of PS. -/
inductive PS where
  | offline | active | dim | offerDeep | deep | offerDormant | dormant
  | grantWait (record : GrantWait)
  | waking (record : WakeRecord)
  deriving DecidableEq, Repr

/-- The partner-offer-pending record (R18, R29). -/
structure PartnerOffer where
  depth : JointDepth
  expiry : Nat
  deriving DecidableEq, Repr

/-- What started a revival (R63). -/
inductive RevivalCause where
  | alr | activity
  deriving DecidableEq, Repr

/-- A revival in progress: its cause and the expiry of the revival timer (R63). -/
structure Revival where
  cause : RevivalCause
  expiry : Nat
  deriving DecidableEq, Repr

/-- State of PSC n (R18, R47, R63). -/
structure Psc where
  ps : PS := .offline
  rs : RS := .awake
  offer : Option PartnerOffer := none
  force : Bool := false
  idleTimer : Option Nat := none
  deepTimer : Option Nat := none
  dormantTimer : Option Nat := none
  offerTimer : Option Nat := none
  refreshSend : Option Nat := none
  refreshWatch : Option Nat := none
  revival : Option Revival := none
  deriving DecidableEq, Repr

/-! ## Advert Unit (chapter 5) -/

/-- One copy of the local advert record LA (R83, R186). -/
structure LaRecord where
  tDim : BitVec 16 := 20
  tDeep : BitVec 16 := 200
  tDormant : BitVec 16 := 5000
  deriving DecidableEq, Repr

/-- The contents of an ADVERT: our advert image (R84), or a partner's (R90, R189). -/
structure Advert where
  seq : BitVec 4
  capability : BitVec 2
  tDim : BitVec 16
  tDeep : BitVec 16
  tDormant : BitVec 16
  refreshMs : BitVec 8
  deriving DecidableEq, Repr

/-- Local advert state (R83). -/
inductive AdvertState where
  | unsent | pending | echoed | failed
  deriving DecidableEq, Repr

/-- The partner advert record PA (R83). -/
structure PartnerRecord where
  valid : Bool := false
  seq : BitVec 4 := 0
  capability : BitVec 2 := 0
  tDim : BitVec 16 := 0
  tDeep : BitVec 16 := 0
  tDormant : BitVec 16 := 0
  refreshMs : BitVec 8 := 0
  deriving DecidableEq, Repr

/-- State of ADU n (R83). -/
structure Adu where
  laStaging : LaRecord := {}
  laLive : LaRecord := {}
  state : AdvertState := .unsent
  seq : BitVec 4 := 0
  retry : Nat := 0
  echoTimer : Option Nat := none
  image : Option Advert := none
  advertPending : Bool := false
  /-- The pending ECHO with its seq. -/
  echoPending : Option (BitVec 4) := none
  pa : PartnerRecord := {}
  deriving DecidableEq, Repr

/-! ## Transmit Queue (chapters 6 and 7) -/

/-- State of a descriptor (R112). -/
inductive FrameState where
  | filling | complete | transmitting
  deriving DecidableEq, Repr

/-- A frame descriptor (R112). -/
structure Descriptor where
  length : Nat
  tag : Byte
  cells : List CellNo
  admission : Nat
  release : Option Nat
  state : FrameState
  mark : Bool
  deriving DecidableEq, Repr

/-- The flush record: the number of marked descriptors, and when the FLUSH makes its next removal (R118). -/
structure FlushRecord where
  left : Nat
  next : Nat
  deriving DecidableEq, Repr

/-- State of TXQ n (R113, R118, R130, R133, R137). The head is the first of the list. The aging candidate is
the oldest descriptor that is not TRANSMITTING, so only its deadline is held. -/
structure Txq where
  queue : List Descriptor := []
  flush : Option FlushRecord := none
  agingDeadline : Option Nat := none
  releaseWatch : Option Nat := none
  urgencyWatch : Option Nat := none
  deriving DecidableEq, Repr

/-! ## System Stream Port (chapters 1 and 6) -/

/-- Route of an ingress frame (R105). -/
inductive Route where
  | queued | bypass | ignore
  deriving DecidableEq, Repr

/-- The frame in progress record (R105). -/
structure Ingress where
  route : Route
  length : Nat
  tag : Byte
  count : Nat
  deriving DecidableEq, Repr

/-- What the receiver is in the middle of: a DATA frame being delivered to egress, with the bytes delivered so
far and the check sequence over what has arrived; a management frame; or the rest of a frame that is ignored
(R13, R16). -/
inductive RxFrame where
  | data (header : Option RxHeader) (count : Nat) (check : BitVec 16)
  | management
  | ignored
  deriving DecidableEq, Repr

/-- State of SSP n (R16, R105). -/
structure Ssp where
  ingress : Option Ingress := none
  rx : Option RxFrame := none
  deriving DecidableEq, Repr

/-! ## Depth Governor (chapter 8) -/

/-- State of DGV n (R141). -/
structure Dgv where
  ceiling : Depth := .dim
  failures : Nat := 0
  restore : Option Nat := none
  deriving DecidableEq, Repr

/-! ## Configuration and command slot (chapter 9) -/

/-- Latency mode (chapter 7). -/
inductive LatencyMode where
  | variable | fixed
  deriving DecidableEq, Repr

/-- One copy of the configuration record, each field with the width of its field in the port page and its
default (section 9.1, R186). -/
structure PortConfig where
  enable : Bool := true
  maxCeiling : Depth := .dim
  latencyMode : LatencyMode := .variable
  fixedLatency : BitVec 16 := 500
  dimIdle : BitVec 16 := 50
  deepIdle : BitVec 20 := 2000
  dormantIdle : BitVec 16 := 500
  offerTimeout : BitVec 16 := 500
  refreshInterval : BitVec 7 := 10
  wakeGuard : BitVec 16 := 50
  ageLimit : BitVec 14 := 0
  urgencyCells : BitVec 13 := 0
  urgencyAge : BitVec 16 := 0
  reserve : BitVec 11 := 128
  cap : BitVec 13 := 1024
  failThreshold : BitVec 4 := 3
  restorePeriod : BitVec 8 := 10
  deriving DecidableEq, Repr

/-- The last command of a slot (R157). -/
inductive SlotCommand where
  | none | apply | forceWake | flush | sendAdvert | restoreCeiling | clearCounters | portReset | unknown
  deriving DecidableEq, Repr

/-- The result of the last command (R157). -/
inductive SlotResult where
  | none | inProgress | done | rejected
  deriving DecidableEq, Repr

/-- The reason of a refusal (R157). -/
inductive Reason where
  | none | busy | invalid | notIdle | noLink
  deriving DecidableEq, Repr

/-- The command slot of port n (R157); `busy` is slot state BUSY. -/
structure Slot where
  busy : Bool := false
  command : SlotCommand := .none
  result : SlotResult := .none
  reason : Reason := .none
  deriving DecidableEq, Repr

/-! ## Event Unit, per port (chapter 10) -/

/-- The 23 counters of a port, 32 bits each (R171). -/
structure Counters where
  admitted : BitVec 32 := 0
  txFrames : BitVec 32 := 0
  txBypass : BitVec 32 := 0
  late : BitVec 32 := 0
  discHoldoff : BitVec 32 := 0
  discNolink : BitVec 32 := 0
  discAbort : BitVec 32 := 0
  discAged : BitVec 32 := 0
  discFlush : BitVec 32 := 0
  discLinkdown : BitVec 32 := 0
  wakesLocal : BitVec 32 := 0
  wakesPartner : BitVec 32 := 0
  wakeFail : BitVec 32 := 0
  offerTimeout : BitVec 32 := 0
  refreshLoss : BitVec 32 := 0
  rxFrames : BitVec 32 := 0
  rxErr : BitVec 32 := 0
  rxUnannounced : BitVec 32 := 0
  mgmtDiscard : BitVec 32 := 0
  resActive : BitVec 32 := 0
  resDim : BitVec 32 := 0
  resDeep : BitVec 32 := 0
  resDormant : BitVec 32 := 0
  deriving DecidableEq, Repr

/-! ## What leaves the part on the line and on the system side -/

/-- What LPE n puts on the line besides fill (R10, R12): a one-shot word; the start of a frame with the bytes
known at its hand-over (type byte first); a byte of a bypass frame; the normal end, with the bytes of the check
sequence in the order they are sent (R189); the end with the error mark; the truncation of an abandoned frame (R6). -/
inductive LineTx where
  | word (w : OneShot)
  | frameStart (bytes : List Byte)
  | byte (b : Byte)
  | frameEnd (check : List Byte)
  | frameError
  | truncated
  deriving DecidableEq, Repr

/-- What SSP n delivers at egress (R16, R188). -/
inductive EgressTx where
  | opening (word : Word)
  | byte (b : Byte)
  | closing (word : Word)
  deriving DecidableEq, Repr

/-- Everything of index n. `lineOut` and `egressOut` are the model's own: what has left the part on the line
and at egress since the last pin reset, oldest first (log entry 5). -/
structure Port where
  lpe : Lpe := {}
  psc : Psc := {}
  adu : Adu := {}
  txq : Txq := {}
  ssp : Ssp := {}
  dgv : Dgv := {}
  staging : PortConfig := {}
  cfg : PortConfig := {}
  slot : Slot := {}
  counters : Counters := {}
  flags : BitVec 11 := 0
  enables : BitVec 11 := 0
  lineOut : List LineTx := []
  egressOut : List EgressTx := []
  deriving DecidableEq, Repr

/-! ## Shared blocks -/

/-- Class of an arbiter entry (R68). -/
inductive ReqClass where
  | urgent | normal
  deriving DecidableEq, Repr

/-- An entry of the request queue (R68). -/
structure WbaEntry where
  port : PortId
  cls : ReqClass
  fromDepth : JointDepth
  entryTime : Nat
  deriving DecidableEq, Repr

/-- State of the wake budget arbiter (R68). -/
structure Wba where
  w : Nat := 2
  count : Nat := 0
  queue : List WbaEntry := []
  deriving DecidableEq, Repr

/-- State of the cell pool manager (R99): the free list, the data of the cells, and pool_low. The byte at
position j of cell c stands at address c × 128 + j. The held counts are the lengths of the cell lists in the
queues, and the live reserves and caps are fields of the ports' live configuration. -/
structure Pool where
  free : List CellNo
  data : List Host.Cell := []
  low : Nat := 256
  deriving DecidableEq, Repr

/-- State of the device page's own locations and of the Event Unit's shared part (R169, R171, R173, R174). -/
structure Device where
  /-- Last device command SOFT_RESET with result DONE (true), or both NONE (false). -/
  softResetDone : Bool := false
  flags : BitVec 3 := 0
  enables : BitVec 3 := 0
  budgetExceeded : BitVec 32 := 0
  residency : Option Nat := none
  deriving DecidableEq, Repr

/-- The whole device. `readData`, `draws` and `pending` are the model's own: what the last read of the host bus
returned, how many free values have been taken (log entries 3, 24), and the commands that wait (log entries 2, 6). -/
structure State where
  ports : Vector Port 8
  wba : Wba := {}
  pool : Pool
  dev : Device := {}
  /-- The 1 µs time base (chapter 0). -/
  now : Nat := 0
  /-- RESETN is asserted. -/
  resetHeld : Bool := false
  readData : Word := 0
  draws : Nat := 0
  pending : List Instr := []
  deriving DecidableEq, Repr

/-- `k` cell numbers in ascending order from `i`. -/
def cellsFrom : Nat → Nat → List CellNo
  | 0, _ => []
  | k + 1, i => Fin.ofNat 4096 i :: cellsFrom k (i + 1)

/-- All cells of the pool in ascending order, the free list after pin reset (R99). -/
def allCells : List CellNo := cellsFrom Config.poolCells 0

/-- The device while RESETN is asserted: every value at its default (R170). -/
def State.held : State where
  ports := Vector.replicate 8 {}
  pool := { free := allCells }
  resetHeld := true

/-- The device right after reset: RESETN has been asserted and released with no signal on any receive pair, so
every value stands at its default and the residency timer has started (R1, R170, R173; log entry 1). -/
def State.reset : State where
  ports := Vector.replicate 8 {}
  pool := { free := allCells }
  dev := { residency := some Config.residencyTime }

end Sys2Proof.Machine
end

