-- ==== Sys2Proof/Machine/Access.lean ====
section
/-! DEFINITION. Machine/Access.lean: the accessors of State through which every operation reads and writes. -/

namespace Sys2Proof.Machine

/-- The outcome type of the device. -/
abbrev Outcome := Host.Outcome State Fault Refusal

/-- Port n. -/
def State.port (s : State) (n : PortId) : Port := s.ports[n]

/-- Port n replaced. -/
def State.setPort (n : PortId) (p : Port) (s : State) : State := { s with ports := s.ports.set n p }

/-- Port n changed. -/
def State.modPort (n : PortId) (f : Port → Port) (s : State) : State := s.setPort n (f (s.port n))

/-- The arbiter changed. -/
def State.modWba (f : Wba → Wba) (s : State) : State := { s with wba := f s.wba }

/-- The pool changed. -/
def State.modPool (f : Pool → Pool) (s : State) : State := { s with pool := f s.pool }

/-- The device locations changed. -/
def State.modDev (f : Device → Device) (s : State) : State := { s with dev := f s.dev }

/-- The time base has reached `t` (log entry 2). -/
def State.reach (t : Nat) (s : State) : State := { s with now := max s.now t }

/-- A free value has been taken at the number `s.draws`; the next one is another (log entries 3, 24). -/
def State.drawn (s : State) : State := { s with draws := s.draws + 1 }

/-- A command of a device whose RESETN may be asserted: while it is, nothing is taken (R170). -/
def running (s : State) (f : State → State) : Outcome :=
  if s.resetHeld then .next s else .next (f s)

/-- The expiry of a timer: a stopped timer does not expire; a running one does, at its expiry on the time base
(chapter 0, "Time base"; log entry 2). -/
def onExpiry (timer : Option Nat) (f : State → State) (s : State) : State :=
  match timer with
  | none => s
  | some t => f (s.reach t)

/-- The timer has run to its expiry. -/
def isDue (now : Nat) (timer : Option Nat) : Bool :=
  match timer with
  | none => false
  | some t => t ≤ now

/-- A timer that runs on where it has run to its expiry, and stands stopped otherwise. -/
def reached (now : Nat) (timer : Option Nat) : Option Nat := timer.filter fun t => t ≤ now

/-- A sum over the eight ports. -/
def State.sumPorts (f : Port → Nat) (s : State) : Nat := (allPorts.map fun n => f (s.port n)).sum

end Sys2Proof.Machine
end

