-- ==== Sys2Proof/Machine/Layout.lean ====
section
/-! DEFINITION. Machine/Layout.lean: the map of the register window (R181, R183, R184, R185, R187): which
location stands at which offset, and the access type of each. -/

namespace Sys2Proof.Machine

/-- The 23 counters of a port, in the order of their words (R171, R187). -/
inductive Counter where
  | admitted | txFrames | txBypass | late | discHoldoff | discNolink | discAbort | discAged
  | discFlush | discLinkdown | wakesLocal | wakesPartner | wakeFail | offerTimeout | refreshLoss
  | rxFrames | rxErr | rxUnannounced | mgmtDiscard | resActive | resDim | resDeep | resDormant
  deriving DecidableEq, Repr

/-- The mapped locations of the window. `i` is the number of a word within its group. -/
inductive Location where
  | id0 | id1 | devCmd | wbudget | poolLow | poolStatus | wbaStatus | devFlags | devFlagEn | portSummary
  | budgetExceededCount
  | arbPosA (i : Fin 8) | arbPosB (i : Fin 8)
  | cfgStaging (n : PortId) (i : Fin 8) | cfgLive (n : PortId) (i : Fin 8)
  | laStaging (n : PortId) (i : Fin 2) | laLive (n : PortId) (i : Fin 2)
  | pa (n : PortId) (i : Fin 3)
  | status0 (n : PortId) | status1 (n : PortId) | headAge (n : PortId)
  | cmd (n : PortId) | slot (n : PortId) | flags (n : PortId) | flagEn (n : PortId)
  | counter (n : PortId) (c : Counter)
  deriving DecidableEq, Repr

/-- The access types (R182). -/
inductive Access where
  | rw | ro | w1c | cmd | dcmd
  deriving DecidableEq, Repr

/-- The counter at position `i` of the counter block, none at position 15 (R187). -/
def counterAt : Nat → Option Counter
  | 0 => some .admitted | 1 => some .txFrames | 2 => some .txBypass | 3 => some .late
  | 4 => some .discHoldoff | 5 => some .discNolink | 6 => some .discAbort | 7 => some .discAged
  | 8 => some .discFlush | 9 => some .discLinkdown | 10 => some .wakesLocal | 11 => some .wakesPartner
  | 12 => some .wakeFail | 13 => some .offerTimeout | 14 => some .refreshLoss
  | 16 => some .rxFrames | 17 => some .rxErr | 18 => some .rxUnannounced | 19 => some .mgmtDiscard
  | 20 => some .resActive | 21 => some .resDim | 22 => some .resDeep | 23 => some .resDormant
  | _ => none

/-- Word `i` of the device page (R183). -/
def deviceWord : Nat → Option Location
  | 0 => some .id0 | 1 => some .id1 | 2 => some .devCmd | 3 => some .wbudget | 4 => some .poolLow
  | 5 => some .poolStatus | 6 => some .wbaStatus | 7 => some .devFlags | 8 => some .devFlagEn
  | 9 => some .portSummary | 10 => some .budgetExceededCount
  | _ => none

/-- Word `i` of the port page of port `n` (R185): 0x00 to 0x1C staging, 0x20 to 0x3C live, then the advert
records, the status, the slot, the flags and, from 0x80, the counters. -/
def portWord (n : PortId) (i : Nat) : Option Location :=
  if i < 8 then some (.cfgStaging n (Fin.ofNat 8 i))
  else if i < 16 then some (.cfgLive n (Fin.ofNat 8 (i - 8)))
  else if i < 32 then
    match i with
    | 16 => some (.laStaging n 0) | 17 => some (.laStaging n 1)
    | 18 => some (.laLive n 0) | 19 => some (.laLive n 1)
    | 20 => some (.pa n 0) | 21 => some (.pa n 1) | 22 => some (.pa n 2)
    | 23 => some (.status0 n) | 24 => some (.status1 n) | 25 => some (.headAge n)
    | 26 => some (.cmd n) | 27 => some (.slot n) | 28 => some (.flags n) | 29 => some (.flagEn n)
    | _ => none
  else (counterAt (i - 32)).map (.counter n)

/-- The location at an offset of the window; `none` where it is unmapped (R181). An offset that is no
multiple of four is the offset of no location (log entry 12). -/
def locate (offset : BitVec 12) : Option Location :=
  let a := offset.toNat
  if a % 4 ≠ 0 then none
  else if a < 0x100 then deviceWord (a / 4)
  else if a < 0x140 then
    let i := (a - 0x100) / 4
    some (if i % 2 = 0 then .arbPosA (Fin.ofNat 8 (i / 2)) else .arbPosB (Fin.ofNat 8 (i / 2)))
  else if a < 0x200 then none
  else if a < 0xA00 then portWord (Fin.ofNat 8 ((a - 0x200) / 0x100)) (a % 0x100 / 4)
  else none

/-- The access type of a location (R182, R183, R184, R185). -/
def Location.access : Location → Access
  | .wbudget | .poolLow | .devFlagEn | .cfgStaging _ _ | .laStaging _ _ | .flagEn _ => .rw
  | .devFlags | .flags _ => .w1c
  | .cmd _ => .cmd
  | .devCmd => .dcmd
  | .id0 | .id1 | .poolStatus | .wbaStatus | .portSummary | .budgetExceededCount | .arbPosA _ | .arbPosB _
  | .cfgLive _ _ | .laLive _ _ | .pa _ _ | .status0 _ | .status1 _ | .headAge _ | .slot _ | .counter _ _ => .ro

/-- The locations of type RW that have no behaviour of their own: the staging copies (R155, R182). -/
def Location.isStaging : Location → Bool
  | .cfgStaging _ _ | .laStaging _ _ => true
  | _ => false

end Sys2Proof.Machine
end

