-- ==== Sys2Proof/Machine/Operands.lean ====
section
/-! DEFINITION. Machine/Operands.lean: the bit layouts of chapter 11: the words of the configuration record, the
codes of the status fields, the frame word, and the bodies and check sequence of the line frames. -/

namespace Sys2Proof.Machine

/-- The field of `width` bits of a word whose lowest bit is bit `lo`. -/
def fieldOf (v : Word) (lo width : Nat) : BitVec width := v.extractLsb' lo width

/-- A field placed in a word with its lowest bit at bit `lo`. -/
def place {width : Nat} (v : BitVec width) (lo : Nat) : Word := v.setWidth 32 <<< lo

/-- A Bool as a field of one bit. -/
def bit1 (b : Bool) : BitVec 1 := BitVec.ofBool b

/-! ## Codes (R186, R187) -/

/-- Level of a depth, also its code (chapter 0, "Sleep depths"; R187). -/
def Depth.level : Depth → Nat
  | .none => 0 | .dim => 1 | .deep => 2 | .dormant => 3

/-- The depth of a code (R186). -/
def Depth.ofCode (v : BitVec 2) : Depth :=
  match v.toNat with
  | 0 => .none | 1 => .dim | 2 => .deep | _ => .dormant

/-- Level of a sleep depth. -/
def SleepDepth.level : SleepDepth → Nat
  | .dim => 1 | .deep => 2 | .dormant => 3

/-- Self-wake time of a depth, µs (chapter 0, "Sleep depths"). -/
def SleepDepth.selfWake : SleepDepth → Nat
  | .dim => 2 | .deep => 40 | .dormant => 1500

/-- A joint depth as a sleep depth. -/
def JointDepth.toSleep : JointDepth → SleepDepth
  | .deep => .deep | .dormant => .dormant

/-- Code of the link state (R187). -/
def LinkState.code : LinkState → BitVec 2
  | .down => 0 | .acquiring => 1 | .up => 2 | .restart => 3

/-- Code of PS (R187). -/
def PS.code : PS → BitVec 4
  | .offline => 0 | .active => 1 | .dim => 2 | .offerDeep => 3 | .deep => 4 | .offerDormant => 5
  | .dormant => 6 | .grantWait _ => 7 | .waking _ => 8

/-- Code of RS (R187). -/
def RS.code : RS → BitVec 2
  | .awake => 0 | .listen => 1 | .reviving => 2 | .joint => 3

/-- Code of the advert state (R187). -/
def AdvertState.code : AdvertState → BitVec 2
  | .unsent => 0 | .pending => 1 | .echoed => 2 | .failed => 3

/-- Code of the head state of a queue (R187). -/
def headStateCode : List Descriptor → BitVec 2
  | [] => 0
  | d :: _ => match d.state with
    | .filling => 1 | .complete => 2 | .transmitting => 3

/-- Code of the last command (R187). -/
def SlotCommand.code : SlotCommand → BitVec 4
  | .none => 0 | .apply => 1 | .forceWake => 2 | .flush => 3 | .sendAdvert => 4 | .restoreCeiling => 5
  | .clearCounters => 6 | .portReset => 7 | .unknown => 15

/-- Code of the result (R187). -/
def SlotResult.code : SlotResult → BitVec 2
  | .none => 0 | .inProgress => 1 | .done => 2 | .rejected => 3

/-- Code of the reason (R187). -/
def Reason.code : Reason → BitVec 3
  | .none => 0 | .busy => 1 | .invalid => 2 | .notIdle => 3 | .noLink => 4

/-! ## The configuration record (R186) -/

/-- Word CFG`i` of a configuration record. -/
def PortConfig.word (c : PortConfig) (i : Fin 8) : Word :=
  match i.val with
  | 0 => place (bit1 c.enable) 0 ||| place (BitVec.ofNat 2 c.maxCeiling.level) 1
          ||| place (bit1 (c.latencyMode == .fixed)) 3 ||| place c.failThreshold 4 ||| place c.restorePeriod 8
  | 1 => place c.fixedLatency 0 ||| place c.wakeGuard 16
  | 2 => place c.dimIdle 0 ||| place c.urgencyAge 16
  | 3 => place c.deepIdle 0
  | 4 => place c.dormantIdle 0 ||| place c.offerTimeout 16
  | 5 => place c.refreshInterval 0 ||| place c.ageLimit 16
  | 6 => place c.reserve 0 ||| place c.cap 16
  | _ => place c.urgencyCells 0

/-- A configuration record with word CFG`i` written: every field of the word is replaced (R182). -/
def PortConfig.setWord (c : PortConfig) (i : Fin 8) (v : Word) : PortConfig :=
  match i.val with
  | 0 => { c with
      enable := v.getLsbD 0
      maxCeiling := Depth.ofCode (fieldOf v 1 2)
      latencyMode := if v.getLsbD 3 then .fixed else .variable
      failThreshold := fieldOf v 4 4
      restorePeriod := fieldOf v 8 8 }
  | 1 => { c with fixedLatency := fieldOf v 0 16, wakeGuard := fieldOf v 16 16 }
  | 2 => { c with dimIdle := fieldOf v 0 16, urgencyAge := fieldOf v 16 16 }
  | 3 => { c with deepIdle := fieldOf v 0 20 }
  | 4 => { c with dormantIdle := fieldOf v 0 16, offerTimeout := fieldOf v 16 16 }
  | 5 => { c with refreshInterval := fieldOf v 0 7, ageLimit := fieldOf v 16 14 }
  | 6 => { c with reserve := fieldOf v 0 11, cap := fieldOf v 16 13 }
  | _ => { c with urgencyCells := fieldOf v 0 13 }

/-- Word `i` of a copy of LA (R186). -/
def LaRecord.word (la : LaRecord) (i : Fin 2) : Word :=
  match i.val with
  | 0 => place la.tDim 0 ||| place la.tDeep 16
  | _ => place la.tDormant 0

/-- A copy of LA with word `i` written. -/
def LaRecord.setWord (la : LaRecord) (i : Fin 2) (v : Word) : LaRecord :=
  match i.val with
  | 0 => { la with tDim := fieldOf v 0 16, tDeep := fieldOf v 16 16 }
  | _ => { la with tDormant := fieldOf v 0 16 }

/-- Word PA`i` of the partner advert record (R186). -/
def PartnerRecord.word (pa : PartnerRecord) (i : Fin 3) : Word :=
  match i.val with
  | 0 => place (bit1 pa.valid) 0 ||| place pa.seq 4 ||| place pa.capability 8
          ||| place (pa.refreshMs.setWidth 7) 16
  | 1 => place pa.tDim 0 ||| place pa.tDeep 16
  | _ => place pa.tDormant 0

/-! ## The frame word (R188) -/

/-- Length field of a frame word. -/
def frameLength (v : Word) : Nat := (fieldOf v 0 12).toNat

/-- Tag field of a frame word. -/
def frameTag (v : Word) : Byte := fieldOf v 16 8

/-- Abort flag of a frame word. -/
def frameAbort (v : Word) : Bool := v.getLsbD 31

/-- A frame word with length, tag and abort flag; a length above 4095 is given as its low 12 bits (R188). -/
def frameWord (length : BitVec 16) (tag : Byte) (abort : Bool) : Word :=
  place (length.setWidth 12) 0 ||| place tag 16 ||| place (bit1 abort) 31

/-- The cells a frame occupies: ceil(length ÷ 128) (R107). -/
def cellsFor (length : Nat) : Nat := (length + 127) / Config.cellBytes

/-! ## Line frames (R189) -/

/-- Type byte of a DATA frame. -/
def typeData : Byte := 0x01
/-- Type byte of an ADVERT. -/
def typeAdvert : Byte := 0x02
/-- Type byte of an ECHO. -/
def typeEcho : Byte := 0x03

/-- One bit into the check sequence, generator polynomial x¹⁶ + x¹² + x⁵ + 1 (R189). -/
def crcBit (c : BitVec 16) (b : Bool) : BitVec 16 :=
  if c.msb != b then (c <<< 1) ^^^ 0x1021 else c <<< 1

/-- One byte into the check sequence, most significant bit first (log entry 11). -/
def crcByte (c : BitVec 16) (b : Byte) : BitVec 16 :=
  [7, 6, 5, 4, 3, 2, 1, 0].foldl (fun c i => crcBit c (b.getLsbD i)) c

/-- Bytes into the check sequence. -/
def crcBytes (c : BitVec 16) (bs : List Byte) : BitVec 16 := bs.foldl crcByte c

/-- Initial value of the check sequence: all ones (R189). -/
def crcInit : BitVec 16 := 0xFFFF

/-- The two bytes of a 16-bit field, most significant byte first. -/
def beBytes (v : BitVec 16) : List Byte := [v.extractLsb' 8 8, v.extractLsb' 0 8]

/-- A 16-bit field from its two bytes. -/
def beWord (hi lo : Byte) : BitVec 16 := hi ++ lo

/-- The check sequence received with a management frame of this type, most significant byte first, is the one over its
type byte and its body (R189). -/
def checkMatches (type : Byte) (frame : MgmtFrame) : Bool :=
  beWord frame.hi frame.lo == crcBytes crcInit (type :: frame.body)

/-- Type byte, length and tag of a DATA frame. -/
def dataHeaderBytes (length : BitVec 16) (tag : Byte) : List Byte := typeData :: (beBytes length ++ [tag])

/-- Type byte and body of an ADVERT; unused bits are sent as 0. -/
def Advert.bytes (a : Advert) : List Byte :=
  typeAdvert :: (a.seq ++ (a.capability.setWidth 4) : Byte)
    :: (beBytes a.tDim ++ beBytes a.tDeep ++ beBytes a.tDormant ++ [a.refreshMs])

/-- Type byte and body of an ECHO. -/
def echoBytes (seq : BitVec 4) : List Byte := [typeEcho, (seq ++ (0 : BitVec 4) : Byte)]

/-- The ADVERT of a body of exactly 8 bytes; unused bits are ignored. -/
def parseAdvert : List Byte → Option Advert
  | [b1, b2, b3, b4, b5, b6, b7, b8] => some {
      seq := b1.extractLsb' 4 4
      capability := b1.extractLsb' 0 2
      tDim := beWord b2 b3
      tDeep := beWord b4 b5
      tDormant := beWord b6 b7
      refreshMs := b8 }
  | _ => none

/-- The seq of an ECHO with a body of exactly 1 byte; unused bits are ignored. -/
def parseEcho : List Byte → Option (BitVec 4)
  | [b1] => some (b1.extractLsb' 4 4)
  | _ => none

/-- The validation of a partner's ADVERT (R90). -/
def Advert.acceptable (a : Advert) : Bool :=
  1 ≤ a.tDim.toNat && a.tDim.toNat ≤ a.tDeep.toNat && a.tDeep.toNat ≤ a.tDormant.toNat
    && 1 ≤ a.refreshMs.toNat && a.refreshMs.toNat ≤ 100

/-- The validation of LA staging at SEND_ADVERT (R86). -/
def LaRecord.acceptable (la : LaRecord) : Bool :=
  SleepDepth.dim.selfWake ≤ la.tDim.toNat && SleepDepth.deep.selfWake ≤ la.tDeep.toNat
    && SleepDepth.dormant.selfWake ≤ la.tDormant.toNat
    && la.tDim.toNat ≤ la.tDeep.toNat && la.tDeep.toNat ≤ la.tDormant.toNat

end Sys2Proof.Machine
end

