-- ==== Sys2Proof/Machine/Flags.lean ====
section
/-! DEFINITION. Machine/Flags.lean: the counters, the event flags, and what follows from them: the port summary
and IRQN (chapter 10). -/

namespace Sys2Proof.Machine

/-- A 32-bit counter one higher, held at its largest value (R172). -/
def satInc (c : BitVec 32) : BitVec 32 := if c = BitVec.allOnes 32 then c else c + 1

/-- The value of a counter. -/
def Counters.get (k : Counters) : Counter → BitVec 32
  | .admitted => k.admitted | .txFrames => k.txFrames | .txBypass => k.txBypass | .late => k.late
  | .discHoldoff => k.discHoldoff | .discNolink => k.discNolink | .discAbort => k.discAbort
  | .discAged => k.discAged | .discFlush => k.discFlush | .discLinkdown => k.discLinkdown
  | .wakesLocal => k.wakesLocal | .wakesPartner => k.wakesPartner | .wakeFail => k.wakeFail
  | .offerTimeout => k.offerTimeout | .refreshLoss => k.refreshLoss | .rxFrames => k.rxFrames
  | .rxErr => k.rxErr | .rxUnannounced => k.rxUnannounced | .mgmtDiscard => k.mgmtDiscard
  | .resActive => k.resActive | .resDim => k.resDim | .resDeep => k.resDeep | .resDormant => k.resDormant

/-- A counter counted once (R171, R172). -/
def Counters.bump (c : Counter) (k : Counters) : Counters :=
  match c with
  | .admitted => { k with admitted := satInc k.admitted }
  | .txFrames => { k with txFrames := satInc k.txFrames }
  | .txBypass => { k with txBypass := satInc k.txBypass }
  | .late => { k with late := satInc k.late }
  | .discHoldoff => { k with discHoldoff := satInc k.discHoldoff }
  | .discNolink => { k with discNolink := satInc k.discNolink }
  | .discAbort => { k with discAbort := satInc k.discAbort }
  | .discAged => { k with discAged := satInc k.discAged }
  | .discFlush => { k with discFlush := satInc k.discFlush }
  | .discLinkdown => { k with discLinkdown := satInc k.discLinkdown }
  | .wakesLocal => { k with wakesLocal := satInc k.wakesLocal }
  | .wakesPartner => { k with wakesPartner := satInc k.wakesPartner }
  | .wakeFail => { k with wakeFail := satInc k.wakeFail }
  | .offerTimeout => { k with offerTimeout := satInc k.offerTimeout }
  | .refreshLoss => { k with refreshLoss := satInc k.refreshLoss }
  | .rxFrames => { k with rxFrames := satInc k.rxFrames }
  | .rxErr => { k with rxErr := satInc k.rxErr }
  | .rxUnannounced => { k with rxUnannounced := satInc k.rxUnannounced }
  | .mgmtDiscard => { k with mgmtDiscard := satInc k.mgmtDiscard }
  | .resActive => { k with resActive := satInc k.resActive }
  | .resDim => { k with resDim := satInc k.resDim }
  | .resDeep => { k with resDeep := satInc k.resDeep }
  | .resDormant => { k with resDormant := satInc k.resDormant }

/-- The 11 event flags of a port (R174). -/
inductive PortFlag where
  | linkUp | linkDown | advertDone | advertFail | partnerAdvert | ceilingDown | ceilingUp | wakeFail
  | discard | cmdDone | cmdReject
  deriving DecidableEq, Repr

/-- Bit position of a port flag in FLAGS and FLAG_EN (R187). -/
def PortFlag.bit : PortFlag → Nat
  | .linkUp => 0 | .linkDown => 1 | .advertDone => 2 | .advertFail => 3 | .partnerAdvert => 4
  | .ceilingDown => 5 | .ceilingUp => 6 | .wakeFail => 7 | .discard => 8 | .cmdDone => 9 | .cmdReject => 10

/-- The three device flags (R174). -/
inductive DevFlag where
  | poolLow | budgetExceeded | accessError
  deriving DecidableEq, Repr

/-- Bit position of a device flag in DEV_FLAGS and DEV_FLAG_EN (R183). -/
def DevFlag.bit : DevFlag → Nat
  | .poolLow => 0 | .budgetExceeded => 1 | .accessError => 2

/-- A counter of the port counted once. -/
def Port.count (c : Counter) (p : Port) : Port := { p with counters := p.counters.bump c }

/-- A flag of the port set (R174). -/
def Port.raise (f : PortFlag) (p : Port) : Port := { p with flags := p.flags ||| BitVec.twoPow 11 f.bit }

/-- A counted discard: its counter, and the DISCARD flag (R174). -/
def Port.discard (c : Counter) (p : Port) : Port := (p.count c).raise .discard

/-- `k` counted discards. -/
def Port.discards (c : Counter) : Nat → Port → Port
  | 0, p => p
  | k + 1, p => Port.discards c k (p.discard c)

/-- A device flag set. -/
def Device.raise (f : DevFlag) (d : Device) : Device := { d with flags := d.flags ||| BitVec.twoPow 3 f.bit }

/-- A device flag set. -/
def State.raiseDev (f : DevFlag) (s : State) : State := s.modDev (Device.raise f)

/-- The faulty access of R179: ACCESS_ERROR is set and nothing else changes. -/
def State.accessError (s : State) : State := s.raiseDev .accessError

/-- A flag and its enable are both set somewhere in the port (R177). -/
def Port.summary (p : Port) : Bool := p.flags &&& p.enables != 0

/-- The port summary: bit n for port n (R177). -/
def State.portSummary (s : State) : BitVec 8 :=
  BitVec.ofBoolListLE (allPorts.map fun n => (s.port n).summary)

/-- IRQN is asserted exactly while at least one flag is set whose enable is set (R178). -/
def State.irqAsserted (s : State) : Bool :=
  allPorts.any (fun n => (s.port n).summary) || s.dev.flags &&& s.dev.enables != 0

/-- The residency counter of a power state, none for OFFLINE (section 10.2, R173). -/
def PS.residency : PS → Option Counter
  | .offline => none
  | .active => some .resActive
  | .waking _ => some .resActive
  | .dim => some .resDim
  | .offerDeep => some .resDim
  | .deep => some .resDeep
  | .offerDormant => some .resDeep
  | .grantWait r => match r.fromDepth with
    | .deep => some .resDeep
    | .dormant => some .resDormant
  | .dormant => some .resDormant

end Sys2Proof.Machine
end

