-- ==== Sys2Proof/Machine/Memory.lean ====
section
/-! DEFINITION. Machine/Memory.lean: the data of the pool's cells, as a list of address and byte pairs in one
canonical form. -/

namespace Sys2Proof.Machine

/-- Bytes of the pool: 4096 cells of 128 bytes (R99). -/
def poolBytes : Nat := Config.poolCells * Config.cellBytes

/-- What a byte of the pool reads as that nothing has written. DESIGN CHOICE, unsafe (log entry 4): the Guide
gives no contents of the pool after pin reset. -/
def Memory.unlisted : Byte := 0

/-- The byte at an address. -/
def Memory.read : List Host.Cell → Nat → Byte
  | [], _ => Memory.unlisted
  | c :: rest, a => if c.1 = a then c.2 else Memory.read rest a

/-- The memory with one byte written. -/
def Memory.write : List Host.Cell → Nat → Byte → List Host.Cell
  | [], a, b => if b = Memory.unlisted then [] else [(a, b)]
  | c :: rest, a, b =>
      if a < c.1 then (if b = Memory.unlisted then c :: rest else (a, b) :: c :: rest)
      else if a = c.1 then (if b = Memory.unlisted then rest else (a, b) :: rest)
      else c :: Memory.write rest a b

/-- The canonical form: addresses strictly rising and within the pool, no entry equal to what an unlisted
address reads as. -/
abbrev Memory.wf (m : List Host.Cell) : Prop :=
  m.Pairwise (fun c d => c.1 < d.1) ∧ ∀ c ∈ m, c.1 < poolBytes ∧ c.2 ≠ Memory.unlisted

/-- The address of byte `i` of a frame with this cell list: position i mod 128 of the cell at place
floor(i ÷ 128) (R108); `none` where the list is too short. -/
def byteAddress (cells : List CellNo) (i : Nat) : Option Nat :=
  (cells[i / Config.cellBytes]?).map fun c => c.val * Config.cellBytes + i % Config.cellBytes

/-- Byte `i` of a frame written into its cells (R108). -/
def Pool.writeByte (cells : List CellNo) (i : Nat) (b : Byte) (pool : Pool) : Pool :=
  match byteAddress cells i with
  | some a => { pool with data := Memory.write pool.data a b }
  | none => pool

/-- The `length` bytes of a frame read from its cells (R114). -/
def Pool.readFrame (pool : Pool) (cells : List CellNo) (length : Nat) : List Byte :=
  (List.range length).map fun i =>
    match byteAddress cells i with
    | some a => Memory.read pool.data a
    | none => Memory.unlisted

end Sys2Proof.Machine
end

