-- ==== Sys2Proof/Machine/Ops.lean ====
section
/-! DEFINITION. Machine/Ops.lean: the operations on one port that several commands share: what its levels and
tests are worth, what it says on the line and delivers at egress, how its power state, receive state, advert
state and ceiling move. Operations that reach several ports stand in Arbiter.lean, Queue.lean and Link.lean. -/

namespace Sys2Proof.Machine

/-- The expiry of a timer started now. -/
def after (now duration : Nat) : Option Nat := some (now + duration)

/-! ## Levels and tests -/

/-- Held cells u_n: the total length of the cell lists in the queue (R99). -/
def Port.heldCells (p : Port) : Nat := (p.txq.queue.map fun d => d.cells.length).sum

/-- What the port holds beyond its reserve: max(0, u_n − R_n) (R101). -/
def Port.shared (p : Port) : Nat := p.heldCells - p.cfg.reserve.toNat

/-- Management frame pending: the level ADU n gives PSC n (R93). -/
def Adu.managementPending (a : Adu) : Bool := a.advertPending || a.echoPending.isSome

/-- Port n has a wake cause (R40). -/
def Port.wakeCause (p : Port) : Bool :=
  !p.txq.queue.isEmpty || p.adu.managementPending || p.psc.force

/-- A bypass frame is in progress, from its transmission start to its completion (R110). -/
def Transmitter.isBypass : Transmitter → Bool
  | .busy (.bypass _) _ => true
  | _ => false

/-- The port is quiet (R23). -/
def Port.quiet (p : Port) : Bool :=
  p.psc.ps == .active && p.lpe.tx == .idle && p.txq.queue.isEmpty && !p.lpe.tx.isBypass
    && !p.adu.managementPending

/-- The partner time of a depth (R21, R52). -/
def Port.partnerTime (p : Port) : SleepDepth → Nat
  | .dim => if p.adu.pa.valid then p.adu.pa.tDim.toNat else Config.defaultDimTime
  | .deep => p.adu.pa.tDeep.toNat
  | .dormant => p.adu.pa.tDormant.toNat

/-- The depth needs the partner's agreement. -/
def SleepDepth.isJoint : SleepDepth → Bool
  | .dim => false | .deep => true | .dormant => true

/-- The eligibility test of a depth (R21). -/
def Port.eligible (p : Port) (d : SleepDepth) : Bool :=
  p.lpe.link == .up
    && d.level ≤ p.dgv.ceiling.level
    && (!d.isJoint
        || (p.adu.state == .echoed && p.adu.pa.valid && d.level ≤ p.adu.pa.capability.toNat))
    && (p.cfg.latencyMode == .variable
        || d.selfWake + p.partnerTime d + p.cfg.wakeGuard.toNat ≤ p.cfg.fixedLatency.toNat)

/-- An urgency condition of R72 holds for the port. -/
def Port.urgent (now : Nat) (p : Port) : Bool :=
  p.psc.force
    || (p.cfg.urgencyCells.toNat != 0 && p.cfg.urgencyCells.toNat ≤ p.heldCells)
    || (p.cfg.urgencyAge.toNat != 0
        && match p.txq.queue with
           | [] => false
           | d :: _ => p.cfg.urgencyAge.toNat ≤ now - d.admission)

/-- The receiver hands frames on: link UP and RS AWAKE (R14). -/
def Port.observesFrames (p : Port) : Bool := p.lpe.link == .up && p.psc.rs == .awake

/-- The wake in its PARTNER phase, if there is one (R54, R55). -/
def PS.partnerPhase : PS → Option WakeRecord
  | .waking w => if w.phase = .partner then some w else none
  | _ => none

/-- PS holds one unit of the budget count: a budgeted SELF phase (R71). -/
def PS.holdsUnit : PS → Bool
  | .waking w => w.budgeted && w.phase == .self
  | _ => false

/-- The deadline timer of a wake, where one is in progress (R47). -/
def PS.deadlineTimer : PS → Option Nat
  | .waking w => w.deadlineTimer
  | _ => none

/-- PS is GRANT-WAIT. -/
def PS.isGrantWait : PS → Bool
  | .grantWait _ => true
  | _ => false

/-! ## The line and egress -/

/-- Symbols put on the line. -/
def Port.emit (out : List LineTx) (p : Port) : Port := { p with lineOut := p.lineOut ++ out }

/-- Symbols delivered at egress. -/
def Port.deliver (out : List EgressTx) (p : Port) : Port := { p with egressOut := p.egressOut ++ out }

/-- A one-shot word asked for by PSC n: sent at once while the link is UP, not sent otherwise (R10). -/
def Port.say (w : OneShot) (p : Port) : Port :=
  if p.lpe.link = .up then p.emit [.word w] else p

/-- The transmitter state changed. -/
def Port.setTx (tx : Transmitter) (p : Port) : Port := { p with lpe := { p.lpe with tx } }

/-- The last fill record changed (R15). -/
def Port.setFill (f : Option Fill) (p : Port) : Port := { p with lpe := { p.lpe with lastFill := f } }

/-- The receiver's frame changed. -/
def Port.setRx (rx : Option RxFrame) (p : Port) : Port := { p with ssp := { p.ssp with rx } }

/-- The closing part of an egress frame: where length and tag never arrived, both frame words are given with
length 0 and tag 0 (R16). -/
def closingWords (header : Option RxHeader) (error : Bool) : List EgressTx :=
  match header with
  | some h => [.closing (frameWord h.length h.tag error)]
  | none => [.opening (frameWord 0 0 false), .closing (frameWord 0 0 error)]

/-- A delivered DATA frame ends with the error mark and is counted in RX_ERR (R16). -/
def Port.closeWithError (header : Option RxHeader) (p : Port) : Port :=
  (p.deliver (closingWords header true)).count .rxErr

/-- The frame the receiver is in the middle of is broken off because its rest is not observed: a DATA frame
ends with the error mark (R16). -/
def Port.cutRx (p : Port) : Port :=
  match p.ssp.rx with
  | some (.data header _ _) => (p.closeWithError header).setRx none
  | some .management => p.setRx none
  | some .ignored => p.setRx none
  | none => p

/-- The frame the receiver is in the middle of has a line error: a DATA frame ends with the error mark, a
management frame is discarded (R13, R16). -/
def Port.breakRx (p : Port) : Port :=
  match p.ssp.rx with
  | some (.data header _ _) => (p.closeWithError header).setRx none
  | some .management => (p.count .mgmtDiscard).setRx none
  | some .ignored => p.setRx none
  | none => p

/-! ## Power state and receive state -/

/-- PS changed. -/
def Port.setPs (ps : PS) (p : Port) : Port := { p with psc := { p.psc with ps } }

/-- RS changed. -/
def Port.setRs (rs : RS) (p : Port) : Port := { p with psc := { p.psc with rs } }

/-- The partner-offer-pending record changed (R29, R30). -/
def Port.setOffer (o : Option PartnerOffer) (p : Port) : Port := { p with psc := { p.psc with offer := o } }

/-- A partner-offer-pending record is made (R29). -/
def Port.recordOffer (now : Nat) (d : JointDepth) (p : Port) : Port :=
  p.setOffer (some { depth := d, expiry := now + p.cfg.offerTimeout.toNat })

/-- A partner-offer-pending record of this depth is present. -/
def Psc.hasOffer (c : Psc) (d : JointDepth) : Bool :=
  match c.offer with
  | some o => o.depth == d
  | none => false

/-- The six timers of R18 stopped. -/
def Psc.stopTimers (c : Psc) : Psc :=
  { c with idleTimer := none, deepTimer := none, dormantTimer := none, offerTimer := none,
           refreshSend := none, refreshWatch := none }

/-- The idle timer follows the quiet conditions: it starts when they become true, and stops when one of them
ceases to hold (R23). -/
def Port.idleUpdate (now : Nat) (p : Port) : Port :=
  if p.quiet then
    match p.psc.idleTimer with
    | none => { p with psc := { p.psc with idleTimer := after now p.cfg.dimIdle.toNat } }
    | some _ => p
  else { p with psc := { p.psc with idleTimer := none } }

/-- The deep timer starts (R24, R25, R28). -/
def Port.startDeepTimer (now : Nat) (p : Port) : Port :=
  { p with psc := { p.psc with deepTimer := after now p.cfg.deepIdle.toNat } }

/-- The dormant timer starts (R31, R35). -/
def Port.startDormantTimer (now : Nat) (p : Port) : Port :=
  { p with psc := { p.psc with dormantTimer := after now (p.cfg.dormantIdle.toNat * 1000) } }

/-- The offer timer starts (R25, R35). -/
def Port.startOfferTimer (now : Nat) (p : Port) : Port :=
  { p with psc := { p.psc with offerTimer := after now p.cfg.offerTimeout.toNat } }

/-- The refresh send timer starts (R31, R32). -/
def Port.startRefreshSend (now : Nat) (p : Port) : Port :=
  { p with psc := { p.psc with refreshSend := after now (p.cfg.refreshInterval.toNat * 1000) } }

/-- The refresh watch starts: 3 × PA.refresh_ms (R31, R33). -/
def Port.startRefreshWatch (now : Nat) (p : Port) : Port :=
  { p with psc := { p.psc with refreshWatch := after now (3 * p.adu.pa.refreshMs.toNat * 1000) } }

/-- RS becomes LISTEN: the receiver leaves AWAKE, and a frame being delivered is cut (R16, R20). -/
def Port.toListen (p : Port) : Port := (p.cutRx).setRs .listen

/-- RS becomes JOINT: a frame being delivered is cut, a revival ends without its RDY, and the last fill record
becomes NONE (R15, R16, R20, R64). -/
def Port.toJoint (p : Port) : Port :=
  let p := ((p.cutRx).setRs .joint).setFill none
  { p with psc := { p.psc with revival := none } }

/-- A revival starts: RS becomes REVIVING, the last fill record NONE, and the revival timer runs (R63). -/
def Port.startRevival (now : Nat) (cause : RevivalCause) (p : Port) : Port :=
  let p := (p.setRs .reviving).setFill none
  { p with psc := { p.psc with revival := some { cause, expiry := now + Config.revivalTime } } }

/-- Unannounced activity in RS LISTEN: counted once, and a revival of cause ACTIVITY starts (R14, R63). -/
def Port.unannounced (now : Nat) (p : Port) : Port :=
  (p.count .rxUnannounced).startRevival now .activity

/-- The first entry of PS into DEEP, from DIM or OFFER-DEEP (R31). -/
def Port.enterDeep (now : Nat) (p : Port) : Port :=
  let p := p.toJoint
  let p := { p with psc := { p.psc.stopTimers with ps := .deep } }
  let p := if p.psc.hasOffer .deep then p.setOffer none else p
  ((p.startRefreshSend now).startRefreshWatch now).startDormantTimer now

/-- Entry of PS into DEEP from OFFER-DORMANT or GRANT-WAIT: the line never left DEEP, only the dormant timer
starts afresh (R31). -/
def Port.returnDeep (now : Nat) (p : Port) : Port := (p.setPs .deep).startDormantTimer now

/-- Entry of PS into DORMANT (R39). -/
def Port.enterDormant (p : Port) : Port :=
  { p with psc := { p.psc.stopTimers with ps := .dormant, offer := none } }

/-- A revival started by an ALR is in progress (R48, R65). -/
def Psc.revivedByAlr (c : Psc) : Bool :=
  match c.revival with
  | some r => r.cause == .alr
  | none => false

/-- A LOCAL wake begins: the wake record is made, all six timers of R18 stop, WAKES_LOCAL is counted (R47, R48). -/
def Port.beginLocal (now : Nat) (selfDepth waitDepth : SleepDepth) (budgeted : Bool) (p : Port) : Port :=
  let w : WakeRecord := {
    origin := .localEnd, selfDepth, waitDepth, phase := .self, budgeted
    alertSeen := selfDepth == .dim && p.psc.revivedByAlr
    readySeen := false
    selfDuration := selfDepth.selfWake, waitDuration := none, deadlineDuration := none
    selfTimer := after now selfDepth.selfWake, waitTimer := none, deadlineTimer := none }
  Port.count .wakesLocal { p with psc := { p.psc.stopTimers with ps := .waking w } }

/-- A PARTNER wake begins (R49). -/
def Port.beginPartner (now : Nat) (depth : JointDepth) (p : Port) : Port :=
  let w : WakeRecord := {
    origin := .partner, selfDepth := depth.toSleep, waitDepth := depth.toSleep, phase := .self
    budgeted := true, alertSeen := false, readySeen := false
    selfDuration := depth.toSleep.selfWake, waitDuration := none, deadlineDuration := none
    selfTimer := after now depth.toSleep.selfWake, waitTimer := none, deadlineTimer := none }
  Port.count .wakesPartner { p with psc := { p.psc.stopTimers with ps := .waking w } }

/-- The grant at PSC n: the GRANT-WAIT record becomes a budgeted LOCAL wake, its wait-depth raised to DORMANT
where a partner-offer-pending record of DORMANT is present (R42, R48, R75). A refresh watch that has reached its end
falls together with the grant: its loss is still taken, and drops the wake (R75; log entry 28). -/
def Port.takeGrant (now : Nat) (p : Port) : Port :=
  match p.psc.ps with
  | .grantWait r =>
      let wait := if p.psc.hasOffer .dormant then .dormant else r.waitDepth
      let q := p.beginLocal now r.fromDepth.toSleep wait.toSleep true
      { q with psc := { q.psc with refreshWatch := reached now p.psc.refreshWatch } }
  | _ => p

/-- The phase of a LOCAL wake becomes PARTNER: the wait and deadline timers start, and both durations are
entered in the record (R51, R52). -/
def Port.beginPartnerPhase (now : Nat) (w : WakeRecord) (p : Port) : Port :=
  let wait := p.partnerTime w.waitDepth
  let deadline := wait + p.cfg.wakeGuard.toNat
  p.setPs (.waking { w with
    phase := .partner
    waitDuration := some wait, deadlineDuration := some deadline
    selfTimer := none, waitTimer := after now wait, deadlineTimer := after now deadline })

/-- The end of a wake in ACTIVE, at PSC n (R60, R64). The selection and the idle timer follow (R126, R23). Of the six
timers of R18 none runs (R18, R33): a refresh watch kept at the grant ends here (log entry 28). -/
def Port.wakeEnd (p : Port) : Port :=
  { p with psc := { p.psc with ps := .active, rs := .awake, force := false, revival := none, refreshWatch := none } }

/-! ## Advert unit -/

/-- The advert image of R84. -/
def Port.makeImage (p : Port) (seq : BitVec 4) : Advert where
  seq := seq
  capability := BitVec.ofNat 2 p.cfg.maxCeiling.level
  tDim := p.adu.laLive.tDim
  tDeep := p.adu.laLive.tDeep
  tDormant := p.adu.laLive.tDormant
  refreshMs := p.cfg.refreshInterval.setWidth 8

/-- Entry into PENDING: seq advances modulo 16, the retry count becomes 0, the image is made and an ADVERT is
made pending (R85, R86). -/
def Port.advertise (p : Port) : Port :=
  let seq := p.adu.seq + 1
  { p with adu := { p.adu with
      seq, state := .pending, retry := 0, image := some (p.makeImage seq), advertPending := true } }

/-- ADU n at link loss (R96). -/
def Adu.linkLost (a : Adu) : Adu :=
  { a with state := .unsent, retry := 0, echoTimer := none, advertPending := false, image := none,
           echoPending := none, pa := {} }

/-- The record PA of a valid ADVERT (R91). -/
def Advert.toPartner (a : Advert) : PartnerRecord where
  valid := true
  seq := a.seq
  capability := a.capability
  tDim := a.tDim
  tDeep := a.tDeep
  tDormant := a.tDormant
  refreshMs := a.refreshMs

/-! ## Depth governor -/

/-- One level lower, NONE at the lowest (R144). -/
def Depth.lower : Depth → Depth
  | .dormant => .deep | .deep => .dim | .dim => .none | .none => .none

/-- One level higher, DORMANT at the highest (R146). -/
def Depth.higher : Depth → Depth
  | .none => .dim | .dim => .deep | .deep => .dormant | .dormant => .dormant

/-- Duration of the restore timer, µs (R141). -/
def PortConfig.restoreTime (c : PortConfig) : Nat := c.restorePeriod.toNat * 1000000

/-- The restore timer starts (R143, R146). -/
def Port.startRestore (now : Nat) (p : Port) : Port :=
  { p with dgv := { p.dgv with restore := after now p.cfg.restoreTime } }

/-- The drop at threshold: the counter returns to 0, the ceiling falls one level, and CEILING_DOWN is set
unless the ceiling was NONE (R144). -/
def Port.drop (p : Port) : Port :=
  let p' := { p with dgv := { p.dgv with failures := 0, ceiling := p.dgv.ceiling.lower } }
  if p.dgv.ceiling = .none then p' else p'.raise .ceilingDown

/-- A failure report at DGV n (R143). -/
def Port.failure (now : Nat) (p : Port) : Port :=
  let p := { p with dgv := { p.dgv with failures := p.dgv.failures + 1 } }
  let p := if p.lpe.link = .up then p.startRestore now else p
  if p.cfg.failThreshold.toNat ≤ p.dgv.failures then p.drop else p

/-- A refresh loss at PSC n: counted, and a failure is reported to DGV n (R34). -/
def Port.refreshLost (now : Nat) (p : Port) : Port := (p.count .refreshLoss).failure now

/-- A wake that missed its deadline, at PSC n: WAKE_FAIL is counted and set, and a failure is reported to DGV n
(R58). -/
def Port.wakeMissed (now : Nat) (p : Port) : Port := ((p.count .wakeFail).raise .wakeFail).failure now

/-- The ceiling raised to a depth at or above it, with CEILING_UP if it rose (R146, R149). -/
def Port.raiseCeiling (d : Depth) (p : Port) : Port :=
  let p' := { p with dgv := { p.dgv with ceiling := d } }
  if p.dgv.ceiling.level < d.level then p'.raise .ceilingUp else p'

/-! ## Command slot -/

/-- The slot refuses a command: the record takes it with the reason, CMD_REJECT is set, the slot state stays
(R158). -/
def Port.refuse (c : SlotCommand) (r : Reason) (p : Port) : Port :=
  Port.raise .cmdReject
    { p with slot := { p.slot with command := c, result := .rejected, reason := r } }

/-- The slot reports a command DONE: it is IDLE, and CMD_DONE is set (R158, R165). -/
def Port.done (c : SlotCommand) (p : Port) : Port :=
  Port.raise .cmdDone
    { p with slot := { busy := false, command := c, result := .done, reason := .none } }

end Sys2Proof.Machine
end

