-- ==== Sys2Proof/Machine/Arbiter.lean ====
section
/-! DEFINITION. Machine/Arbiter.lean: the wake budget arbiter (chapter 4), and how a wake cause or its absence
moves a port's power state through it (R41, R43). -/

namespace Sys2Proof.Machine

/-- An entry is URGENT. -/
def WbaEntry.isUrgent (e : WbaEntry) : Bool := e.cls == .urgent

/-- An entry at the tail of its class: every URGENT entry stands ahead of every NORMAL entry (R69, R72). -/
def Wba.join (e : WbaEntry) (b : Wba) : Wba :=
  match e.cls with
  | .urgent => { b with queue := b.queue.filter WbaEntry.isUrgent ++ e :: b.queue.filter (!·.isUrgent) }
  | .normal => { b with queue := b.queue ++ [e] }

/-- The entry of a port removed from wherever it stands (R76, R78, R80). -/
def Wba.remove (n : PortId) (b : Wba) : Wba := { b with queue := b.queue.filter (·.port != n) }

/-- The grant of an entry: it leaves the queue, the count rises by one, and its port's wake begins (R74, R75). -/
def State.grantEntry (e : WbaEntry) (rest : List WbaEntry) (s : State) : State :=
  (s.modWba fun b => { b with count := b.count + 1, queue := rest }).modPort e.port (Port.takeGrant s.now)

/-- Grants head first while the count is below W and the queue is not empty, at most `k` of them (R74). -/
def grantLoop : Nat → State → State
  | 0, s => s
  | k + 1, s =>
      if s.wba.count < s.wba.w then
        match s.wba.queue with
        | [] => s
        | e :: rest => grantLoop k (s.grantEntry e rest)
      else s

/-- The test of the grant condition (R74). -/
def State.testGrant (s : State) : State := grantLoop s.wba.queue.length s

/-- A request at the arbiter: the entry of port n with its class found at this event, then the test of the
grant condition (R72). -/
def State.request (n : PortId) (fromDepth : JointDepth) (s : State) : State :=
  let cls := if (s.port n).urgent s.now then ReqClass.urgent else ReqClass.normal
  (s.modWba (Wba.join { port := n, cls, fromDepth, entryTime := s.now })).testGrant

/-- PS becomes GRANT-WAIT: the dormant and offer timers stop, and a request is placed (R41, R72). -/
def State.enterGrantWait (n : PortId) (r : GrantWait) (s : State) : State :=
  (s.modPort n fun p =>
    { p with psc := { p.psc with ps := .grantWait r, dormantTimer := none, offerTimer := none } }).request
      n r.fromDepth

/-- A wake cause that is present takes the port as R41 states. -/
def State.wakeCheck (n : PortId) (s : State) : State :=
  if (s.port n).wakeCause then
    match (s.port n).psc.ps with
    | .dim => s.modPort n (Port.beginLocal s.now .dim .dim false)
    | .offerDeep => s.modPort n (Port.beginLocal s.now .dim .deep false)
    | .deep => s.enterGrantWait n { fromDepth := .deep, waitDepth := .deep }
    | .offerDormant => s.enterGrantWait n { fromDepth := .deep, waitDepth := .dormant }
    | .dormant => s.enterGrantWait n { fromDepth := .dormant, waitDepth := .dormant }
    | .offline => s
    | .active => s
    | .grantWait _ => s
    | .waking _ => s
  else s

/-- The withdrawal of a port in GRANT-WAIT whose wake cause has vanished (R43, R78). -/
def State.withdrawCheck (n : PortId) (s : State) : State :=
  match (s.port n).psc.ps with
  | .grantWait r =>
      if (s.port n).wakeCause then s
      else (s.modWba (Wba.remove n)).modPort n fun p =>
        match r.fromDepth with
        | .deep => p.returnDeep s.now
        | .dormant => p.enterDormant
  | _ => s

/-- The NORMAL entry of a port moved to the tail of the URGENT part, its entry time unchanged (R73). -/
def Wba.promote (n : PortId) (b : Wba) : Wba :=
  match b.queue.find? (fun e => e.port == n && !e.isUrgent) with
  | some e => (b.remove n).join { e with cls := .urgent }
  | none => b

/-- The promotion test of port n: a NORMAL entry whose urgency condition holds is promoted, and the grant
condition is tested (R73). -/
def State.promoteCheck (n : PortId) (s : State) : State :=
  if (s.port n).urgent s.now && s.wba.queue.any (fun e => e.port == n && !e.isUrgent) then
    (s.modWba (Wba.promote n)).testGrant
  else s

/-- A unit of the budget count released, with the test of the grant condition (R79). -/
def State.releaseUnit (s : State) : State :=
  (s.modWba fun b => { b with count := b.count - 1 }).testGrant

/-- A partner-started SELF phase at the arbiter: one unit is added, with BUDGET_EXCEEDED set and counted where
the count stood at or above W, and the grant condition is tested (R76). -/
def State.partnerUnit (s : State) : State :=
  let s' := if s.wba.w ≤ s.wba.count then
      s.modDev fun d => { d.raise .budgetExceeded with budgetExceeded := satInc d.budgetExceeded }
    else s
  (s'.modWba fun b => { b with count := b.count + 1 }).testGrant

/-- A PARTNER wake of port n from its depth: its entry, if it has one, leaves the queue first (R49, R76). -/
def State.partnerWake (n : PortId) (depth : JointDepth) (s : State) : State :=
  ((s.modWba (Wba.remove n)).modPort n (Port.beginPartner s.now depth)).partnerUnit

end Sys2Proof.Machine
end

