-- ==== Sys2Proof/Machine/Queue.lean ====
section
/-! DEFINITION. Machine/Queue.lean: the cell pool, the transmit queues and the transmitter selection (chapters 6
and 7): admission test and hold-off, head and aging candidate, removal, and which frame goes next. -/

namespace Sys2Proof.Machine

/-! ## Pool quotas (R101, R103) -/

/-- ΣR, the sum of all live reserves. -/
def State.sumReserves (s : State) : Nat := s.sumPorts fun p => p.cfg.reserve.toNat

/-- Shared in use: the sum over all ports of max(0, u_n − R_n). -/
def State.sharedInUse (s : State) : Nat := s.sumPorts Port.shared

/-- Shared in use with port n holding `k` cells more. -/
def State.sharedWith (s : State) (n : PortId) (k : Nat) : Nat :=
  (allPorts.map fun m =>
    if m = n then (s.port m).heldCells + k - (s.port m).cfg.reserve.toNat else (s.port m).shared).sum

/-- Shared size: 4096 − ΣR. -/
def State.sharedSize (s : State) : Nat := Config.poolCells - s.sumReserves

/-- The admission test for `k` cells at port n (R103). -/
def State.admissionTest (s : State) (n : PortId) (k : Nat) : Bool :=
  (s.port n).heldCells + k ≤ (s.port n).cfg.cap.toNat
    && s.sharedWith n k ≤ s.sharedSize
    && (s.port n).txq.queue.length < Config.maxDescriptors

/-- HOLDOFF n (R103): a level, worth at every moment what its inputs make it. -/
def State.holdoff (s : State) (n : PortId) : Bool :=
  (s.port n).lpe.link == .up
    && ((s.port n).txq.flush.isSome || !s.admissionTest n Config.largestCells)

/-- LINKOK n (R4, R6): asserted while the link is UP. -/
def State.linkok (s : State) (n : PortId) : Bool := (s.port n).lpe.link == .up

/-! ## Head and aging candidate (R130, R133, R137) -/

/-- A descriptor is TRANSMITTING. -/
def Descriptor.isTransmitting (d : Descriptor) : Bool := d.state == .transmitting

/-- The aging candidate: the oldest descriptor that is not TRANSMITTING (R133). -/
def Txq.candidate (q : Txq) : Option Descriptor := q.queue.find? (!·.isTransmitting)

/-- Place of the aging candidate in the queue. -/
def Txq.candidateIdx (q : Txq) : Option Nat := q.queue.findIdx? (!·.isTransmitting)

/-- Place of the FILLING descriptor in the queue. -/
def Txq.fillingIdx (q : Txq) : Option Nat := q.queue.findIdx? (·.state == .filling)

/-- A new aging candidate is taken, with its deadline from the live age_limit (R133). A deadline that has been reached
already is entered as it is, and its expiry is due at once (log entry 27). -/
def Port.takeCandidate (p : Port) : Port :=
  let deadline := match p.txq.candidate with
    | none => none
    | some d => if p.cfg.ageLimit.toNat = 0 then none else some (d.admission + p.cfg.ageLimit.toNat * 1000)
  { p with txq := { p.txq with agingDeadline := deadline } }

/-- The release watch of a new head: absent without a head, without a release time, or once it is reached
(R130). -/
def Port.newReleaseWatch (now : Nat) (p : Port) : Option Nat :=
  match p.txq.queue with
  | [] => none
  | d :: _ => match d.release with
    | none => none
    | some t => if now < t then some t else none

/-- The urgency watch of a new head, before it is compared with the time base (R137). -/
def Port.newUrgencyWatch (p : Port) : Option Nat :=
  match p.txq.queue with
  | [] => none
  | d :: _ =>
      if p.cfg.urgencyAge.toNat = 0 then none else some (d.admission + p.cfg.urgencyAge.toNat)

/-- A descriptor has become the head, or the queue has none: both watches are set, and an urgency watch already
reached makes its report at this event (R130, R137). -/
def State.newHead (n : PortId) (s : State) : State :=
  let p := s.port n
  let set (u : Option Nat) := s.modPort n fun p =>
    { p with txq := { p.txq with releaseWatch := p.newReleaseWatch s.now, urgencyWatch := u } }
  match p.newUrgencyWatch with
  | none => set none
  | some t => if t ≤ s.now then (set none).promoteCheck n else set (some t)

/-! ## Removal (R117, R118) -/

/-- The FLUSH of the port ends with completion reported (R118, R165). -/
def Port.endFlush (p : Port) : Port :=
  Port.done .flush { p with txq := { p.txq with flush := none } }

/-- A marked descriptor has gone: the number in the flush record falls by one, and the FLUSH ends at 0 (R118). -/
def Port.flushStep (p : Port) : Port :=
  match p.txq.flush with
  | none => p
  | some f =>
      if f.left ≤ 1 then p.endFlush
      else { p with txq := { p.txq with flush := some { f with left := f.left - 1 } } }

/-- The route of the frame in progress becomes IGNORE (R108, R120). -/
def Port.ignoreIngress (p : Port) : Port :=
  { p with ssp := { p.ssp with ingress := p.ssp.ingress.map fun g => { g with route := .ignore } } }

/-- The port's part of the removal of the descriptor `d` at place `i`, counted in `c` (R117). -/
def Port.takeOut (i : Nat) (d : Descriptor) (c : Counter) (p : Port) : Port :=
  let aged := p.txq.candidateIdx == some i
  let p := { p with txq := { p.txq with queue := p.txq.queue.eraseIdx i } }
  let p := p.discard c
  let p := if d.state = .filling then p.ignoreIngress else p
  let p := if d.mark then p.flushStep else p
  if aged then p.takeCandidate else p

/-- Cells freed to the tail of the free list (R100). -/
def Pool.freeCells (cells : List CellNo) (pool : Pool) : Pool := { pool with free := pool.free ++ cells }

/-- The removal of the descriptor at place `i` of TXQ n, counted in `c` (R117). -/
def State.removeAt (n : PortId) (i : Nat) (c : Counter) (s : State) : State :=
  match (s.port n).txq.queue[i]? with
  | none => s
  | some d =>
      let s := (s.modPort n (Port.takeOut i d c)).modPool (Pool.freeCells d.cells)
      if i = 0 then s.newHead n else s

/-! ## Selection (R125 to R131) -/

/-- The head is eligible for release (R128). -/
def Port.headEligible (now : Nat) (p : Port) : Bool :=
  match p.txq.queue with
  | [] => false
  | d :: _ => d.state == .complete && !d.mark
      && match d.release with
         | none => true
         | some t => t ≤ now

/-- Transmission start of the pending ECHO (R92, R125). -/
def Port.startEcho (seq : BitVec 4) (p : Port) : Port :=
  let p := (p.emit [.frameStart (echoBytes seq)]).setTx (.busy .echo (crcBytes crcInit (echoBytes seq)))
  { p with adu := { p.adu with echoPending := none } }

/-- Transmission start of the pending ADVERT with the contents of the image (R87, R125). -/
def Port.startAdvert (p : Port) : Port :=
  let a := p.adu.image.getD (p.makeImage p.adu.seq)
  let p := (p.emit [.frameStart a.bytes]).setTx (.busy (.advert a.seq) (crcBytes crcInit a.bytes))
  { p with adu := { p.adu with advertPending := false } }

/-- Transmission start of the head with these frame bytes: it becomes TRANSMITTING, a late start is counted,
and the next candidate is taken (R114, R131, R133). -/
def Port.startData (now : Nat) (bytes : List Byte) (p : Port) : Port :=
  match p.txq.queue with
  | [] => p
  | d :: rest =>
      let sent := dataHeaderBytes (BitVec.ofNat 16 d.length) d.tag ++ bytes
      let p := (p.emit [.frameStart sent]).setTx (.busy .queued (crcBytes crcInit sent))
      let p := if d.release.any (· < now) then p.count .late else p
      let q := { p.txq with queue := { d with state := .transmitting } :: rest, releaseWatch := none }
      ({ p with txq := q } : Port).takeCandidate

/-- The bytes of the head of a queue, read from its cells (R114). -/
def State.headBytes (n : PortId) (s : State) : List Byte :=
  match (s.port n).txq.queue with
  | [] => []
  | d :: _ => s.pool.readFrame d.cells d.length

/-- The transmitter selection, made only with PS ACTIVE and the transmitter IDLE: a pending ECHO first, then a
pending ADVERT, then an eligible head (R125). -/
def State.select (n : PortId) (s : State) : State :=
  let p := s.port n
  if p.psc.ps = .active ∧ p.lpe.tx = .idle then
    match p.adu.echoPending with
    | some seq => s.modPort n (Port.startEcho seq)
    | none =>
        if p.adu.advertPending then s.modPort n Port.startAdvert
        else if p.headEligible s.now then s.modPort n (Port.startData s.now (s.headBytes n))
        else s
  else s

/-- What follows at port n at the end of an event that can bring or take a candidate for the transmitter: the
selection (R126), then the quiet conditions of the idle timer (R23). -/
def State.settle (n : PortId) (s : State) : State :=
  let s := s.select n
  s.modPort n (Port.idleUpdate s.now)

/-- What follows a removal at port n: a withdrawal if the cause has vanished (R43), then the selection and the
idle timer. -/
def State.afterRemoval (n : PortId) (s : State) : State := (s.withdrawCheck n).settle n

/-- What follows a management frame made pending at port n: the wake cause (R40), then the selection and the idle
timer (R126). -/
def State.afterPending (n : PortId) (s : State) : State := (s.wakeCheck n).settle n

/-- The end of a wake in ACTIVE: the selection and the quiet conditions follow (R60, R126). -/
def State.endWake (n : PortId) (s : State) : State := (s.modPort n Port.wakeEnd).settle n

/-- RDY is sent and the wake ends in ACTIVE (R51, R53, R57). -/
def State.endWakeRdy (n : PortId) (s : State) : State := (s.modPort n (Port.say .rdy)).endWake n

/-! ## Admission (R106, R107, R110) -/

/-- `k` cells taken from the head of the free list (R100). -/
def Pool.takeCells (k : Nat) (pool : Pool) : Pool := { pool with free := pool.free.drop k }

/-- The test of POOL_LOW after an allocation (R122). -/
def State.poolLowCheck (s : State) : State :=
  if s.pool.free.length < s.pool.low then s.raiseDev .poolLow else s

/-- The new descriptor of a frame admitted now, with these cells (R107, R112). -/
def Port.newDescriptor (now : Nat) (cells : List CellNo) (length : Nat) (tag : Byte) (p : Port) :
    Descriptor where
  length := length
  tag := tag
  cells := cells
  admission := now
  release := match p.cfg.latencyMode with
    | .variable => none
    | .fixed => some (now + p.cfg.fixedLatency.toNat)
  state := .filling
  mark := false

/-- A descriptor appended at the tail, ADMITTED counted, and a new candidate taken where there was none
(R107, R133). -/
def Port.append (d : Descriptor) (p : Port) : Port :=
  let had := p.txq.candidate.isSome
  let p := { p with txq := { p.txq with queue := p.txq.queue ++ [d] } }
  let p := p.count .admitted
  if had then p else p.takeCandidate

/-- A frame admitted to TXQ n (R107): cells, descriptor, POOL_LOW, the watches of a new head, the promotion
test, the wake cause, and the idle timer. -/
def State.admitFrame (n : PortId) (length : Nat) (tag : Byte) (s : State) : State :=
  let k := cellsFor length
  let empty := (s.port n).txq.queue.isEmpty
  let d := (s.port n).newDescriptor s.now (s.pool.free.take k) length tag
  let s := (s.modPool (Pool.takeCells k)).poolLowCheck
  let s := s.modPort n (Port.append d)
  let s := if empty then s.newHead n else s
  let s := s.promoteCheck n
  let s := s.wakeCheck n
  s.modPort n (Port.idleUpdate s.now)

/-- A bypass frame begins on the line at its frame start (R110). -/
def Port.startBypass (length : Nat) (tag : Byte) (p : Port) : Port :=
  let sent := dataHeaderBytes (BitVec.ofNat 16 length) tag
  let p := (p.count .admitted).count .txBypass
  (p.emit [.frameStart sent]).setTx (.busy (.bypass .running) (crcBytes crcInit sent))

/-- The conditions of a bypass (R106, step 4). -/
def Port.mayBypass (p : Port) : Bool :=
  p.cfg.latencyMode == .variable && p.psc.ps == .active && p.txq.queue.isEmpty && p.lpe.tx == .idle
    && !p.adu.managementPending

/-- How far the system frame of a bypass frame in flight has come is changed (R110). -/
def Port.endBypass (e : BypassEnd) (p : Port) : Port :=
  match p.lpe.tx with
  | .busy (.bypass _) check => p.setTx (.busy (.bypass e) check)
  | _ => p

end Sys2Proof.Machine
end

