-- ==== Sys2Proof/Machine/Link.lean ====
section
/-! DEFINITION. Machine/Link.lean: the link reaching UP and leaving it, which every per-port block takes as one
event (R2, R4, R6, R7, and the rules of each block), and the signal. -/

namespace Sys2Proof.Machine

/-! ## Link states -/

/-- The link moves to ACQUIRING and the acquire timer starts (R2). -/
def Port.acquireLink (now : Nat) (p : Port) : Port :=
  { p with lpe := { p.lpe with link := .acquiring, acquire := after now Config.acquireTime, restart := none } }

/-- Entry into DOWN: both timers stand stopped, and an enabled port whose signal is present moves on to
ACQUIRING (R2). -/
def Port.enterDown (now : Nat) (p : Port) : Port :=
  if p.cfg.enable && p.lpe.signal then p.acquireLink now
  else { p with lpe := { p.lpe with link := .down, acquire := none, restart := none } }

/-- Entry into RESTART: the restart timer starts (R7). -/
def Port.enterRestart (now : Nat) (p : Port) : Port :=
  { p with lpe := { p.lpe with link := .restart, acquire := none, restart := after now Config.restartTime } }

/-! ## Leaving UP -/

/-- The frame in flight is abandoned (R6); a bypass frame is counted in DISC_LINKDOWN, unless its system frame
has already been counted in DISC_ABORT (R120). -/
def Port.abandonTx (p : Port) : Port :=
  match p.lpe.tx with
  | .idle => p
  | .busy kind _ =>
      let p := (p.emit [.truncated]).setTx .idle
      match kind with
      | .bypass .running => p.discard .discLinkdown
      | .bypass .clean => p.discard .discLinkdown
      | .bypass .errored => p
      | .queued => p
      | .advert _ => p
      | .echo => p

/-- PSC n at link loss (R45, R66). -/
def Psc.linkLost (c : Psc) : Psc :=
  { c.stopTimers with ps := .offline, rs := .awake, offer := none, force := false, revival := none }

/-- TXQ n and SSP n at link loss: every descriptor is removed and counted in DISC_LINKDOWN, the frame in
progress takes route IGNORE, and a FLUSH ends with completion reported (R119, R120, R139). -/
def Port.emptyQueue (p : Port) : Port :=
  let p := p.discards .discLinkdown p.txq.queue.length
  let p := p.ignoreIngress
  let p := if p.txq.flush.isSome then p.endFlush else p
  { p with txq := {} }

/-- The port's blocks at the one event at which the link leaves UP (R6): LINK_DOWN, the frame in flight, the
frame being received, PSC n, ADU n, TXQ n with SSP n, and DGV n. -/
def Port.linkLost (p : Port) : Port :=
  let p := p.raise .linkDown
  let p := p.abandonTx
  let p := p.breakRx
  let p := { p with psc := p.psc.linkLost, adu := p.adu.linkLost }
  let p := p.emptyQueue
  { p with dgv := { p.dgv with restore := none } }

/-- The cells of all descriptors of a port, in queue order (R120). -/
def Port.cells (p : Port) : List CellNo := p.txq.queue.flatMap (·.cells)

/-- A unit of the budget count released at a link loss; the grant condition is tested unless the loss belongs to
a SOFT_RESET (R80, R81). -/
def State.releaseAtLoss (grants : Bool) (s : State) : State :=
  if grants then s.releaseUnit else s.modWba fun b => { b with count := b.count - 1 }

/-- The link of port n leaves UP (R6): the port's blocks act, its cells are freed, its entry leaves the arbiter
and its unit is released (R80). The caller sets the new link state first. -/
def State.loseLink (n : PortId) (grants : Bool) (s : State) : State :=
  let p := s.port n
  let s := (s.modPort n Port.linkLost).modPool (Pool.freeCells p.cells)
  let s := s.modWba (Wba.remove n)
  if p.psc.ps.holdsUnit then s.releaseAtLoss grants else s

/-- The link leaves UP for DOWN (R5, R8). -/
def State.dropLink (n : PortId) (s : State) : State :=
  (s.modPort n (Port.enterDown s.now)).loseLink n true

/-- A restart order of PSC n: the link leaves UP for RESTART (R7, R34, R58). An order reaches LPE n only while
the link is UP. -/
def State.restartOrder (n : PortId) (s : State) : State :=
  if (s.port n).lpe.link = .up then (s.modPort n (Port.enterRestart s.now)).loseLink n true else s

/-! ## Reaching UP -/

/-- The blocks of the port at the one event at which the link reaches UP (R4): LINK_UP, the fill record, PSC n
(R19), ADU n (R85), DGV n (R146). -/
def Port.linkUp (now : Nat) (p : Port) : Port :=
  let p := p.raise .linkUp
  let p := { p with
    lpe := { p.lpe with link := .up, acquire := none, restart := none, lastFill := none }
    psc := { p.psc with ps := .active, rs := .awake, force := false } }
  (p.advertise).startRestore now

/-- The link of port n reaches UP; the pending ADVERT is started by the selection that follows (R4, R126). -/
def State.raiseLink (n : PortId) (s : State) : State :=
  (s.modPort n (Port.linkUp s.now)).settle n

/-! ## The signal -/

/-- The signal-lost event is observed in UP (R5). -/
def PS.watchesSignal : PS → Bool
  | .active => true
  | .dim => true
  | .offerDeep => true
  | .waking w => w.selfDepth == .dim && w.waitDepth == .dim
  | .offline => false
  | .deep => false
  | .offerDormant => false
  | .dormant => false
  | .grantWait _ => false

/-- The signal level of the receiver changed (R1). -/
def Port.setSignal (b : Bool) (p : Port) : Port := { p with lpe := { p.lpe with signal := b } }

/-! ## Port reset (R9, R46, R97, R123, R152, R168) -/

/-- LPE n and DGV n after the reset: an enabled port is in RESTART, a disabled one in DOWN; the transmitter is
IDLE, the last fill record NONE; the ceiling is the live max_ceiling, the failure counter 0 and the restore timer
stopped (R9, R152). -/
def Port.resetBlocks (now : Nat) (p : Port) : Port :=
  let p := if p.cfg.enable then p.enterRestart now else
    { p with lpe := { p.lpe with link := .down, acquire := none, restart := none } }
  { p with
    lpe := { p.lpe with tx := .idle, lastFill := none }
    dgv := { ceiling := p.cfg.maxCeiling, failures := 0, restore := none } }

/-- The failures that fall together with a reset and have not been taken before it: a refresh loss or a missed wake of the
port as it `was`. With the failure first, the expiry has been taken at PSC n, which counts it, and its report reaches DGV n
after the reset's setting (R152). With the loss of the link first, the timer is stopped and nothing is counted (R66; log
entry 24). -/
def Port.reportDue (failureFirst : Bool) (now : Nat) (p was : Port) : Port :=
  let p := if isDue now was.psc.refreshWatch && failureFirst then p.refreshLost now else p
  if isDue now was.psc.ps.deadlineTimer && failureFirst then p.wakeMissed now else p

/-- A FLUSH in progress ends without completion (R119, R165). -/
def Port.dropFlush (p : Port) : Port := { p with txq := { p.txq with flush := none } }

/-- The reset of port n at its blocks: a FLUSH ends unreported, the link leaves UP if it is UP, and LPE n and
DGV n take their values. -/
def State.resetPort (n : PortId) (grants : Bool) (s : State) : State :=
  let s := s.modPort n Port.dropFlush
  let up := (s.port n).lpe.link = .up
  let s := if up then s.loseLink n grants else s
  s.modPort n (Port.resetBlocks s.now)

end Sys2Proof.Machine
end

