-- ==== Sys2Proof/Machine/Commands.lean ====
section
/-! DEFINITION. Machine/Commands.lean: the command slot and the port commands, and SOFT_RESET (chapter 9). -/

namespace Sys2Proof.Machine

/-- A command other than PORT_RESET at the slot (R158): refused BUSY while a FLUSH runs, refused where its own
acceptance condition fails, and otherwise carried out and reported DONE. -/
def State.slotCommand (n : PortId) (c : SlotCommand) (refusal : Option Reason) (effect : State → State)
    (s : State) : State :=
  if (s.port n).slot.busy then s.modPort n (Port.refuse c .busy)
  else
    match refusal with
    | some r => s.modPort n (Port.refuse c r)
    | none => (effect s).modPort n (Port.done c)

/-! ## APPLY (R156, R159, R160, R161) -/

/-- Every field within its range in the table of section 9.1, cap against the reserve included (R159). -/
def PortConfig.inRange (c : PortConfig) : Bool :=
  1 ≤ c.fixedLatency.toNat && 1 ≤ c.dimIdle.toNat
    && 1 ≤ c.deepIdle.toNat && c.deepIdle.toNat ≤ 1000000
    && 1 ≤ c.dormantIdle.toNat && c.dormantIdle.toNat ≤ 60000
    && 10 ≤ c.offerTimeout.toNat && c.offerTimeout.toNat ≤ 10000
    && 1 ≤ c.refreshInterval.toNat && c.refreshInterval.toNat ≤ 100
    && 1 ≤ c.wakeGuard.toNat && c.ageLimit.toNat ≤ 10000
    && c.urgencyCells.toNat ≤ 4096 && c.reserve.toNat ≤ 1024
    && max c.reserve.toNat 16 ≤ c.cap.toNat && c.cap.toNat ≤ 4096
    && 1 ≤ c.failThreshold.toNat && c.failThreshold.toNat ≤ 8
    && 1 ≤ c.restorePeriod.toNat

/-- In FIXED mode with aging on, age_limit × 1000 is greater than fixed_latency (R136). -/
def PortConfig.agingFits (c : PortConfig) : Bool :=
  c.latencyMode == .variable || c.ageLimit.toNat == 0 || c.fixedLatency.toNat < c.ageLimit.toNat * 1000

/-- The sum of the reserves with this reserve for port n (R159). -/
def State.sumReservesWith (s : State) (n : PortId) (reserve : Nat) : Nat :=
  (allPorts.map fun m => if m = n then reserve else (s.port m).cfg.reserve.toNat).sum

/-- The staging copy passes every test of R159. -/
def State.stagingValid (s : State) (n : PortId) : Bool :=
  let c := (s.port n).staging
  c.inRange && c.agingFits
    && s.sumReservesWith n c.reserve.toNat + s.sharedInUse ≤ Config.poolCells

/-- The port is idle (R160). -/
def Port.isIdle (p : Port) : Bool := p.txq.queue.isEmpty && !p.lpe.tx.isBypass

/-- APPLY would change a field that only an idle port may change (R160). -/
def Port.changesIdleField (p : Port) : Bool :=
  p.staging.latencyMode != p.cfg.latencyMode || p.staging.reserve != p.cfg.reserve
    || p.staging.cap != p.cfg.cap

/-- The reason APPLY is refused for, if it is (R159, R160). -/
def State.applyRefusal (s : State) (n : PortId) : Option Reason :=
  let p := s.port n
  if !s.stagingValid n then some .invalid
  else if p.changesIdleField && p.lpe.link == .up && !p.isIdle then some .notIdle
  else none

/-- The live copy takes the staging copy, and a changed max_ceiling or fail_threshold acts on DGV n (R150, R151,
R156). The live reserve and cap are the pool's own quotas (R99), so they act with the copy. -/
def Port.takeStaging (p : Port) : Port :=
  let ceiling :=
    if p.staging.maxCeiling ≠ p.cfg.maxCeiling ∧ p.staging.maxCeiling.level < p.dgv.ceiling.level then
      p.staging.maxCeiling
    else p.dgv.ceiling
  let failures := if p.staging.failThreshold ≠ p.cfg.failThreshold then 0 else p.dgv.failures
  { p with cfg := p.staging, dgv := { p.dgv with ceiling, failures } }

/-- A change of enable from 1 to 0 at the link: from UP with the link-loss effects, from any other state to DOWN
with the timers stopped (R8). -/
def State.disableLink (n : PortId) (s : State) : State :=
  if (s.port n).lpe.link = .up then s.dropLink n else s.modPort n (Port.enterDown s.now)

/-- The effect of an accepted APPLY (R161). -/
def State.applyEffect (n : PortId) (s : State) : State :=
  let was := (s.port n).cfg.enable
  let s := s.modPort n Port.takeStaging
  match was, (s.port n).cfg.enable with
  | true, false => s.disableLink n
  | false, true => s.modPort n (Port.enterRestart s.now)
  | true, true => s
  | false, false => s

/-- APPLY at the slot. -/
def State.apply (n : PortId) (s : State) : State :=
  s.slotCommand n .apply (s.applyRefusal n) (State.applyEffect n)

/-- APPLY. -/
def execApply (n : PortId) (s : State) : Outcome := running s (State.apply n)

/-! ## FORCE_WAKE (R40, R163) -/

/-- The force flag set (R40). -/
def Port.setForce (p : Port) : Port := { p with psc := { p.psc with force := true } }

/-- The effect of an accepted FORCE_WAKE by PS (R40, R41, R73, R163). -/
def State.forceEffect (n : PortId) (s : State) : State :=
  if (s.port n).psc.ps = .active then s
  else
    let s := s.modPort n Port.setForce
    if (s.port n).psc.ps.isGrantWait then s.promoteCheck n else s.wakeCheck n

/-- FORCE_WAKE at the slot. -/
def State.forceWake (n : PortId) (s : State) : State :=
  s.slotCommand n .forceWake (if (s.port n).lpe.link = .up then none else some .noLink) (State.forceEffect n)

/-- FORCE_WAKE. -/
def execForceWake (n : PortId) (s : State) : Outcome := running s (State.forceWake n)

/-! ## FLUSH (R118, R164) -/

/-- Number of descriptors a FLUSH marks. -/
def Txq.markable (q : Txq) : Nat := (q.queue.filter (!·.isTransmitting)).length

/-- The marks and the flush record are made, and the slot is BUSY with FLUSH IN PROGRESS (R118, R164). -/
def Port.beginFlush (now : Nat) (p : Port) : Port :=
  { p with
    txq := { p.txq with
      queue := p.txq.queue.map fun d => if d.isTransmitting then d else { d with mark := true }
      flush := some { left := p.txq.markable, next := now + Config.flushStep } }
    slot := { busy := true, command := .flush, result := .inProgress, reason := .none } }

/-- FLUSH at the slot: it ends at its acceptance where nothing is marked (R164). -/
def State.flush (n : PortId) (s : State) : State :=
  let p := s.port n
  if p.slot.busy then s.modPort n (Port.refuse .flush .busy)
  else if p.txq.markable = 0 then s.modPort n (Port.done .flush)
  else s.modPort n (Port.beginFlush s.now)

/-- FLUSH. -/
def execFlush (n : PortId) (s : State) : Outcome := running s (State.flush n)

/-! ## SEND_ADVERT, RESTORE_CEILING, CLEAR_COUNTERS (R86, R149, R166, R167) -/

/-- The reason SEND_ADVERT is refused for, if it is (R86). -/
def Adu.sendRefusal (a : Adu) : Option Reason :=
  if !a.laStaging.acceptable then some .invalid
  else if a.state = .pending then some .busy
  else none

/-- The effect of an accepted SEND_ADVERT (R86). -/
def State.sendEffect (n : PortId) (s : State) : State :=
  let s := s.modPort n fun p => { p with adu := { p.adu with laLive := p.adu.laStaging } }
  if (s.port n).adu.state = .unsent then s
  else (s.modPort n Port.advertise).afterPending n

/-- SEND_ADVERT at the slot. -/
def State.sendAdvert (n : PortId) (s : State) : State :=
  s.slotCommand n .sendAdvert (s.port n).adu.sendRefusal (State.sendEffect n)

/-- SEND_ADVERT. -/
def execSendAdvert (n : PortId) (s : State) : Outcome := running s (State.sendAdvert n)

/-- The ceiling becomes the live max_ceiling and the failure counter 0 (R149). -/
def Port.restoreCeiling (p : Port) : Port :=
  let p := p.raiseCeiling p.cfg.maxCeiling
  { p with dgv := { p.dgv with failures := 0 } }

/-- RESTORE_CEILING at the slot. -/
def State.restoreCeiling (n : PortId) (s : State) : State :=
  s.slotCommand n .restoreCeiling none (State.modPort n Port.restoreCeiling)

/-- RESTORE_CEILING. -/
def execRestoreCeiling (n : PortId) (s : State) : Outcome := running s (State.restoreCeiling n)

/-- Every counter of the port 0 (R167). -/
def Port.clearCounters (p : Port) : Port := { p with counters := {} }

/-- CLEAR_COUNTERS at the slot. -/
def State.clearCounters (n : PortId) (s : State) : State :=
  s.slotCommand n .clearCounters none (State.modPort n Port.clearCounters)

/-- CLEAR_COUNTERS. -/
def execClearCounters (n : PortId) (s : State) : Outcome := running s (State.clearCounters n)

/-! ## PORT_RESET, UNKNOWN, SOFT_RESET (R158, R168, R169) -/

/-- PORT_RESET at the slot: accepted in either slot state (R158, R168). A failure of the same moment is taken before or
after it, which is a free value (R66, R152; log entry 24). -/
def State.portReset (n : PortId) (s : State) : State :=
  ((s.resetPort n true).modPort n fun p =>
    (p.reportDue (Config.failureFirst s.draws n) s.now (s.port n)).done .portReset).drawn

/-- PORT_RESET. -/
def execPortReset (n : PortId) (s : State) : Outcome := running s (State.portReset n)

/-- A word that names no port command is refused INVALID in either slot state (R158). -/
def State.unknownCommand (n : PortId) (s : State) : State := s.modPort n (Port.refuse .unknown .invalid)

/-- UNKNOWN_COMMAND. -/
def execUnknownCommand (n : PortId) (s : State) : Outcome := running s (State.unknownCommand n)

/-- What SOFT_RESET leaves of a port's slot, counters, flags and frame in progress (R123, R169, R180). -/
def Port.afterSoftReset (p : Port) : Port :=
  ({ p with slot := {}, counters := {}, flags := 0 } : Port).ignoreIngress

/-- SOFT_RESET (R81, R123, R169, R180): every port as by PORT_RESET without a grant, every counter and flag
cleared, the arbiter's queue empty and its count 0, the free list in ascending order. A failure of the same moment is
taken at each port before or after the reset, which is a free value, and whatever it counts and sets is cleared (R66,
R152; log entry 24). -/
def State.softReset (s : State) : State :=
  let t := (allPorts.foldl (fun s n => s.resetPort n false) s).drawn
  { t with
    ports := Vector.ofFn fun n =>
      ((t.port n).reportDue (Config.failureFirst s.draws n) s.now (s.port n)).afterSoftReset
    wba := { t.wba with count := 0, queue := [] }
    pool := { t.pool with free := allCells }
    dev := { t.dev with softResetDone := true, flags := 0, budgetExceeded := 0 } }

/-- SOFT_RESET. -/
def execSoftReset (s : State) : Outcome := running s State.softReset

end Sys2Proof.Machine
end

