-- ==== Sys2Proof/Machine/Window.lean ====
section
/-! DEFINITION. Machine/Window.lean: what software and the pins show of the state: the value of every location of
the register window (R82, R98, R124, R153, R183 to R187), and the fill each transmitter sends (R11). A read has no
side effect (R182). -/

namespace Sys2Proof.Machine

/-- The larger ages of a 32-bit field are held at its largest value (R82, R124). -/
def ageField (t : Nat) : Word := BitVec.ofNat 32 (min t 4294967295)

/-- The head age of port n (R116, R124). -/
def Port.headAge (now : Nat) (p : Port) : Nat :=
  match p.txq.queue with
  | [] => 0
  | d :: _ => now - d.admission

/-- STATUS0 (R187). -/
def Port.status0 (p : Port) : Word :=
  place p.lpe.link.code 0 ||| place p.psc.ps.code 4 ||| place p.psc.rs.code 8
    ||| place (BitVec.ofNat 2 p.dgv.ceiling.level) 12 ||| place (BitVec.ofNat 3 p.dgv.failures) 16
    ||| place p.adu.state.code 20 ||| place p.adu.seq 24

/-- STATUS1 (R187). -/
def Port.status1 (p : Port) : Word :=
  place (BitVec.ofNat 8 p.txq.queue.length) 0 ||| place (headStateCode p.txq.queue) 8
    ||| place (BitVec.ofNat 13 p.heldCells) 16

/-- SLOT (R187). -/
def Slot.word (l : Slot) : Word :=
  place (bit1 l.busy) 0 ||| place l.command.code 4 ||| place l.result.code 8 ||| place l.reason.code 12

/-- ARB_POS_A of an entry (R184). -/
def WbaEntry.word (e : WbaEntry) : Word :=
  place (bit1 true) 0 ||| place (BitVec.ofNat 3 e.port.val) 4 ||| place (bit1 e.isUrgent) 8
    ||| place (bit1 (e.fromDepth == .dormant)) 12

/-- The fields of a location as they stand (R182). -/
def State.valueAt (s : State) : Location → Word
  | .id0 => 0x5E180DA5
  | .id1 => 0x01
  | .devCmd => place (BitVec.ofNat 4 s.dev.softResetDone.toNat) 0 ||| place (bit1 s.dev.softResetDone) 8
  | .wbudget => place (BitVec.ofNat 4 s.wba.w) 0
  | .poolLow => place (BitVec.ofNat 16 s.pool.low) 0
  | .poolStatus => place (BitVec.ofNat 13 s.pool.free.length) 0 ||| place (BitVec.ofNat 13 s.sharedInUse) 16
  | .wbaStatus => place (BitVec.ofNat 4 s.wba.count) 0 ||| place (BitVec.ofNat 4 s.wba.queue.length) 8
  | .devFlags => place s.dev.flags 0
  | .devFlagEn => place s.dev.enables 0
  | .portSummary => place s.portSummary 0
  | .budgetExceededCount => s.dev.budgetExceeded
  | .arbPosA i => match s.wba.queue[i.val]? with
    | some e => e.word
    | none => 0
  | .arbPosB i => match s.wba.queue[i.val]? with
    | some e => ageField (s.now - e.entryTime)
    | none => 0
  | .cfgStaging n i => (s.port n).staging.word i
  | .cfgLive n i => (s.port n).cfg.word i
  | .laStaging n i => (s.port n).adu.laStaging.word i
  | .laLive n i => (s.port n).adu.laLive.word i
  | .pa n i => (s.port n).adu.pa.word i
  | .status0 n => (s.port n).status0
  | .status1 n => (s.port n).status1
  | .headAge n => ageField ((s.port n).headAge s.now)
  | .cmd _ => 0
  | .slot n => (s.port n).slot.word
  | .flags n => place (s.port n).flags 0
  | .flagEn n => place (s.port n).enables 0
  | .counter n c => (s.port n).counters.get c

/-- What a read returns: the location's fields, 0 at an unmapped offset (R182). -/
def State.readWord (s : State) (offset : BitVec 12) : Word :=
  match locate offset with
  | some l => s.valueAt l
  | none => 0

/-- The fill the transmitter of a port sends between words and frames, none for a silent or quiet line (R2, R3, R7,
R11). While RESETN is asserted the Guide does not say what is sent; the model gives IDL there too, as the default state
does at the release (R1, R170; log entry 25). -/
def Port.fill (p : Port) : Option Fill :=
  match p.lpe.link with
  | .down => if p.cfg.enable then some .idl else none
  | .acquiring => some .idl
  | .restart => none
  | .up => match p.psc.ps with
    | .active => some .idl
    | .dim => some .dim
    | .offerDeep => some .dim
    | .waking w => match w.phase with
      | .partner => some .idl
      | .self => if w.selfDepth = .dim then some .dim else none
    | .offline => none
    | .deep => none
    | .offerDormant => none
    | .dormant => none
    | .grantWait _ => none

end Sys2Proof.Machine
end

