-- ==== Sys2Proof/WellFormed.lean ====
section
/-! DEFINITION. WellFormed.lean: which commands are the events their rows of the table name. The meanings are
total: a term that fails a check still has the effect the Guide gives the same symbols or the same access. -/

namespace Sys2Proof

/-- A write of all four byte lanes (R182). -/
def fullLanes : BitVec 4 := 0b1111

/-- The accesses R179 calls faulty at the window itself: an unmapped offset, a partial write, a write to a
read-only location. -/
def HostAccess.faulty : HostAccess → Bool
  | .read offset => (Machine.locate offset).isNone
  | .write offset lanes _ =>
      lanes != fullLanes ||
        (match Machine.locate offset with
         | none => true
         | some l => l.access == .ro)

/-- A FLAG_CLEAR_WRITE or ENABLE_WRITE names a port or the device, REGISTER_WRITE a staging word,
FAULTY_ACCESS a faulty access; a received ADVERT has a body of 8 bytes and an ECHO of 1, each with a check sequence
that matches (R13, R189); only a DATA frame has a length and tag (R189). -/
def Instr.wellFormed : Instr → Bool
  | .rxFrameStart _ type header => header.isNone || type == 0x01
  | .receiveAdvert _ frame => frame.body.length == 8 && Machine.checkMatches Machine.typeAdvert frame
  | .receiveEcho _ frame => frame.body.length == 1 && Machine.checkMatches Machine.typeEcho frame
  | .registerWrite offset _ =>
      match Machine.locate offset with
      | some l => l.isStaging
      | none => false
  | .faultyAccess access => access.faulty
  | _ => true

end Sys2Proof
end

