-- ==== Sys2Proof/Machine/HostBus.lean ====
section
/-! DEFINITION. Machine/HostBus.lean: the accesses of the host bus to locations other than the command slots (R70,
R121, R155, R169, R175, R176, R179, R182). -/

namespace Sys2Proof.Machine

/-- A write of W: 1 to 8 replaces W and tests the grant condition; any other value is ignored and sets
ACCESS_ERROR (R70). -/
def State.writeW (value : Word) (s : State) : State :=
  if 1 ≤ value.toNat ∧ value.toNat ≤ 8 then (s.modWba fun b => { b with w := value.toNat }).testGrant
  else s.accessError

/-- WRITE_W. -/
def execWriteW (value : Word) (s : State) : Outcome := running s (State.writeW value)

/-- A write of pool_low: the field [15:0], limited to 4096 (R121, R183). That the bits above the field are ignored, and the
word is not read as a whole number, is the model's choice between two sentences of R183 (log entry 32). -/
def State.writePoolLow (value : Word) (s : State) : State :=
  s.modPool fun pool => { pool with low := min (fieldOf value 0 16).toNat Config.poolCells }

/-- WRITE_POOL_LOW. -/
def execWritePoolLow (value : Word) (s : State) : Outcome := running s (State.writePoolLow value)

/-- A write to a flags location: each flag whose bit is 1 is cleared (R175). -/
def State.clearFlags (loc : FlagLoc) (value : Word) (s : State) : State :=
  match loc with
  | .port n => s.modPort n fun p => { p with flags := p.flags &&& ~~~(fieldOf value 0 11) }
  | .device => s.modDev fun d => { d with flags := d.flags &&& ~~~(fieldOf value 0 3) }

/-- FLAG_CLEAR_WRITE. -/
def execFlagClearWrite (loc : FlagLoc) (value : Word) (s : State) : Outcome :=
  running s (State.clearFlags loc value)

/-- A write to an enables location: every enable is replaced (R176). -/
def State.writeEnables (loc : FlagLoc) (value : Word) (s : State) : State :=
  match loc with
  | .port n => s.modPort n fun p => { p with enables := fieldOf value 0 11 }
  | .device => s.modDev fun d => { d with enables := fieldOf value 0 3 }

/-- ENABLE_WRITE. -/
def execEnableWrite (loc : FlagLoc) (value : Word) (s : State) : Outcome :=
  running s (State.writeEnables loc value)

/-- DEV_CMD_INVALID: the word is ignored, ACCESS_ERROR is set, and the register keeps its record (R169). -/
def execDevCmdInvalid (s : State) : Outcome := running s State.accessError

/-- A command word at the slot of port n, by its whole value (R158, R187). -/
def State.commandWord (n : PortId) (value : Word) (s : State) : State :=
  match value.toNat with
  | 1 => s.apply n
  | 2 => s.forceWake n
  | 3 => s.flush n
  | 4 => s.sendAdvert n
  | 5 => s.restoreCeiling n
  | 6 => s.clearCounters n
  | 7 => s.portReset n
  | _ => s.unknownCommand n

/-- A write of all four byte lanes at a location: its owner acts on it (R182). -/
def State.writeLocation (l : Location) (value : Word) (s : State) : State :=
  match l with
  | .cfgStaging n i => s.modPort n fun p => { p with staging := p.staging.setWord i value }
  | .laStaging n i =>
      s.modPort n fun p => { p with adu := { p.adu with laStaging := p.adu.laStaging.setWord i value } }
  | .wbudget => s.writeW value
  | .poolLow => s.writePoolLow value
  | .devFlags => s.clearFlags .device value
  | .flags n => s.clearFlags (.port n) value
  | .devFlagEn => s.writeEnables .device value
  | .flagEn n => s.writeEnables (.port n) value
  | .cmd n => s.commandWord n value
  | .devCmd => if value.toNat = 1 then s.softReset else s.accessError
  | .id0 | .id1 | .poolStatus | .wbaStatus | .portSummary | .budgetExceededCount | .arbPosA _ | .arbPosB _
  | .cfgLive _ _ | .laLive _ _ | .pa _ _ | .status0 _ | .status1 _ | .headAge _ | .slot _ | .counter _ _ =>
      s.accessError

/-- A write of the host bus: ignored with ACCESS_ERROR where it does not drive all four byte lanes or its offset
is unmapped, and otherwise taken by the location's owner (R179, R182). -/
def State.hostWrite (offset : BitVec 12) (lanes : BitVec 4) (value : Word) (s : State) : State :=
  if lanes = fullLanes then
    match locate offset with
    | some l => s.writeLocation l value
    | none => s.accessError
  else s.accessError

/-- A read of the host bus: the value goes to the bus; at an unmapped offset it is 0 and ACCESS_ERROR is set
(R179, R182). -/
def State.hostRead (offset : BitVec 12) (s : State) : State :=
  let s' := { s with readData := s.readWord offset }
  if (locate offset).isNone then s'.accessError else s'

/-- REGISTER_WRITE: a full write at an offset of the window (R182). At a staging location it replaces the stored
fields; at any other it is what the owner makes of it. -/
def execRegisterWrite (offset : BitVec 12) (value : Word) (s : State) : Outcome :=
  running s (State.hostWrite offset fullLanes value)

/-- FAULTY_ACCESS: an access of the host bus (R179). One that is not faulty is what R182 makes of it. -/
def execFaultyAccess (access : HostAccess) (s : State) : Outcome :=
  running s fun s =>
    match access with
    | .read offset => s.hostRead offset
    | .write offset lanes value => s.hostWrite offset lanes value

end Sys2Proof.Machine
end

