-- ==== Sys2Proof/Machine/Line.lean ====
section
/-! DEFINITION. Machine/Line.lean: pin reset and the commands of the link state: signal, acquire timer, restart
timer (R1 to R7, R170). -/

namespace Sys2Proof.Machine

/-- PIN_RESET (R170): every value takes its default. The signal level is what the receive pair presents, and is
not a value of the device (R1); the commands that wait are kept. -/
def execPinReset (s : State) : Outcome :=
  .next { State.held with
    ports := s.ports.map fun p => { lpe := { signal := p.lpe.signal } }
    draws := s.draws
    pending := s.pending }

/-- RESETN_RELEASE (R170, R173): the residency timer starts, and every enabled port whose signal is present goes
on to ACQUIRING as at an entry into DOWN (R1). A release while RESETN is not asserted is no event. -/
def execResetnRelease (s : State) : Outcome :=
  if s.resetHeld then
    .next { s with
      resetHeld := false
      dev := { s.dev with residency := after s.now Config.residencyTime }
      ports := s.ports.map (Port.enterDown s.now) }
  else .next s

/-- The signal-present event at a port (R2, R3, R5, R7). -/
def Port.signalPresent (now : Nat) (p : Port) : Port :=
  let p := p.setSignal true
  if p.lpe.link = .down ∧ p.cfg.enable then p.acquireLink now else p

/-- SIGNAL_PRESENT: the level changes from absent to present (R1, R2). While RESETN is asserted only the level
is kept. -/
def execSignalPresent (n : PortId) (s : State) : Outcome :=
  if (s.port n).lpe.signal then .next s
  else if s.resetHeld then .next (s.modPort n (Port.setSignal true))
  else .next (s.modPort n (Port.signalPresent s.now))

/-- The signal-lost event at a port (R3, R5). -/
def State.signalLost (n : PortId) (s : State) : State :=
  let s := s.modPort n (Port.setSignal false)
  match (s.port n).lpe.link with
  | .acquiring => s.modPort n (Port.enterDown s.now)
  | .up => if (s.port n).psc.ps.watchesSignal then s.dropLink n else s
  | .down => s
  | .restart => s

/-- SIGNAL_LOST: the level changes from present to absent (R1, R5). While RESETN is asserted only the level is
kept. -/
def execSignalLost (n : PortId) (s : State) : Outcome :=
  if (s.port n).lpe.signal then
    if s.resetHeld then .next (s.modPort n (Port.setSignal false)) else .next (s.signalLost n)
  else .next s

/-- The acquire timer stopped. -/
def Port.stopAcquire (p : Port) : Port := { p with lpe := { p.lpe with acquire := none } }

/-- ACQUIRE_TIMER_EXPIRY (R3, R4): the link moves from ACQUIRING to UP. -/
def State.acquireExpiry (n : PortId) (s : State) : State :=
  let s := s.modPort n Port.stopAcquire
  if (s.port n).lpe.link = .acquiring then s.raiseLink n else s

/-- ACQUIRE_TIMER_EXPIRY. -/
def execAcquireTimerExpiry (n : PortId) (s : State) : Outcome :=
  running s fun s => onExpiry (s.port n).lpe.acquire (State.acquireExpiry n) s

/-- The restart timer stopped. -/
def Port.stopRestart (p : Port) : Port := { p with lpe := { p.lpe with restart := none } }

/-- RESTART_TIMER_EXPIRY (R7): the link moves from RESTART to DOWN, where the entry test applies. -/
def State.restartExpiry (n : PortId) (s : State) : State :=
  let s := s.modPort n Port.stopRestart
  if (s.port n).lpe.link = .restart then s.modPort n (Port.enterDown s.now) else s

/-- RESTART_TIMER_EXPIRY. -/
def execRestartTimerExpiry (n : PortId) (s : State) : Outcome :=
  running s fun s => onExpiry (s.port n).lpe.restart (State.restartExpiry n) s

end Sys2Proof.Machine
end

