-- ==== Sys2Proof/Machine/Receive.lean ====
section
/-! DEFINITION. Machine/Receive.lean: what arrives on the line: control words (R14, R15, R17, R20, R26, R27, R36,
R37, R54 to R57, R59), data frames (R13, R16) and management frames (R88, R90 to R92). -/

namespace Sys2Proof.Machine

/-! ## Fill words -/

/-- An IDL symbol (R14, R15): in AWAKE a fill report where it differs from the record, which clears a
partner-offer-pending record (R30); in LISTEN unannounced activity. -/
def Port.hearIdl (now : Nat) (p : Port) : Port :=
  if p.lpe.link = .up then
    match p.psc.rs with
    | .awake => if p.lpe.lastFill = some .idl then p else (p.setFill (some .idl)).setOffer none
    | .listen => p.unannounced now
    | .reviving => p
    | .joint => p
  else p

/-- RECEIVE_IDL. -/
def execReceiveIdl (n : PortId) (s : State) : Outcome :=
  running s fun s => s.modPort n (Port.hearIdl s.now)

/-- A DIM symbol (R14, R15, R20): in AWAKE a fill report makes RS LISTEN. -/
def Port.hearDim (p : Port) : Port :=
  if p.lpe.link = .up then
    match p.psc.rs with
    | .awake => if p.lpe.lastFill = some .dim then p else (p.setFill (some .dim)).toListen
    | .listen => p.setFill (some .dim)
    | .reviving => p
    | .joint => p
  else p

/-- RECEIVE_DIM. -/
def execReceiveDim (n : PortId) (s : State) : Outcome :=
  running s fun s => s.modPort n Port.hearDim

/-! ## Offers and refresh -/

/-- PS enters DEEP for the first time in the line's DEEP period; a wake cause that is present acts (R31, R41). -/
def State.enterDeep (n : PortId) (s : State) : State :=
  (s.modPort n (Port.enterDeep s.now)).wakeCheck n

/-- PS enters DORMANT; a wake cause that is present acts (R39, R41). -/
def State.enterDormant (n : PortId) (s : State) : State :=
  (s.modPort n Port.enterDormant).wakeCheck n

/-- An OFD reported to PSC n (R26, R27, R29, R59). -/
def State.hearOfd (n : PortId) (s : State) : State :=
  let p := s.port n
  if p.lpe.link = .up ∧ (p.psc.rs = .awake ∨ p.psc.rs = .listen) then
    match p.psc.ps with
    | .active => s.modPort n (Port.recordOffer s.now .deep)
    | .dim =>
        if p.eligible .deep then (s.modPort n (Port.say .ofd)).enterDeep n
        else s.modPort n (Port.recordOffer s.now .deep)
    | .offerDeep => s.enterDeep n
    | .offline => s
    | .deep => s
    | .offerDormant => s
    | .dormant => s
    | .grantWait _ => s
    | .waking _ => s
  else s

/-- RECEIVE_OFD. -/
def execReceiveOfd (n : PortId) (s : State) : Outcome :=
  running s (State.hearOfd n)

/-- An OFM reported to PSC n in RS JOINT (R29, R36, R37, R39, R42, R59). -/
def State.takeOfm (n : PortId) (s : State) : State :=
  match (s.port n).psc.ps with
  | .deep =>
      if (s.port n).eligible .dormant then (s.modPort n (Port.say .ofm)).enterDormant n
      else s.modPort n (Port.recordOffer s.now .dormant)
  | .offerDormant => s.enterDormant n
  | .grantWait r => match r.fromDepth with
    | .deep => s.modPort n (Port.recordOffer s.now .dormant)
    | .dormant => s
  | .offline => s
  | .active => s
  | .dim => s
  | .offerDeep => s
  | .dormant => s
  | .waking _ => s

/-- An OFM symbol by RS: ignored in AWAKE, unannounced activity in LISTEN, reported in JOINT (R14, R26). -/
def State.hearOfm (n : PortId) (s : State) : State :=
  let p := s.port n
  if p.lpe.link = .up then
    match p.psc.rs with
    | .listen => s.modPort n (Port.unannounced s.now)
    | .joint => s.takeOfm n
    | .awake => s
    | .reviving => s
  else s

/-- RECEIVE_OFM. -/
def execReceiveOfm (n : PortId) (s : State) : Outcome :=
  running s (State.hearOfm n)

/-- The refresh timers run in this PS: DEEP, OFFER-DORMANT, GRANT-WAIT from DEEP (R32, R33). -/
def PS.refreshes : PS → Bool
  | .deep => true
  | .offerDormant => true
  | .grantWait r => r.fromDepth == .deep
  | .offline => false
  | .active => false
  | .dim => false
  | .offerDeep => false
  | .dormant => false
  | .waking _ => false

/-- An RFR symbol: in JOINT it restarts the refresh watch where that watch runs, in LISTEN it is unannounced
activity (R14, R33). -/
def Port.hearRfr (now : Nat) (p : Port) : Port :=
  if p.lpe.link = .up then
    match p.psc.rs with
    | .listen => p.unannounced now
    | .joint => if p.psc.ps.refreshes then p.startRefreshWatch now else p
    | .awake => p
    | .reviving => p
  else p

/-- RECEIVE_RFR. -/
def execReceiveRfr (n : PortId) (s : State) : Outcome :=
  running s fun s => s.modPort n (Port.hearRfr s.now)

/-! ## Alert and ready -/

/-- An ALR in ACTIVE, DIM or OFFER-DEEP: answered at once in AWAKE, after a revival in LISTEN (R57). -/
def Port.answerAlr (now : Nat) (p : Port) : Port :=
  match p.psc.rs with
  | .awake => p.say .rdy
  | .listen => p.startRevival now .alr
  | .reviving => p
  | .joint => p

/-- An ALR during a wake: remembered in SELF, ends the wake in PARTNER, ignored in a PARTNER wake (R57). -/
def State.alrWhileWaking (n : PortId) (w : WakeRecord) (s : State) : State :=
  match w.origin with
  | .partner => s
  | .localEnd => match w.phase with
    | .self => s.modPort n (Port.setPs (.waking { w with alertSeen := true }))
    | .partner => s.endWakeRdy n

/-- An ALR reported to PSC n (R57): the partner-offer-pending record is cleared in every case. -/
def State.takeAlr (n : PortId) (s : State) : State :=
  let s := s.modPort n (Port.setOffer none)
  match (s.port n).psc.ps with
  | .active => s.modPort n (Port.answerAlr s.now)
  | .dim => s.modPort n (Port.answerAlr s.now)
  | .offerDeep => s.modPort n (Port.answerAlr s.now)
  | .waking w => s.alrWhileWaking n w
  | .deep => s.partnerWake n .deep
  | .offerDormant => s.partnerWake n .deep
  | .dormant => s.partnerWake n .dormant
  | .grantWait r => s.partnerWake n r.fromDepth
  | .offline => s

/-- An ALR symbol: observed in every RS but REVIVING (R14). -/
def State.hearAlr (n : PortId) (s : State) : State :=
  if (s.port n).lpe.link = .up ∧ (s.port n).psc.rs ≠ .reviving then s.takeAlr n else s

/-- RECEIVE_ALR. -/
def execReceiveAlr (n : PortId) (s : State) : Outcome :=
  running s (State.hearAlr n)

/-- An RDY reported in the PARTNER phase of a wake (R55): ready-seen is set, and the wake ends if the wait timer
has expired. -/
def State.takeRdy (n : PortId) (w : WakeRecord) (s : State) : State :=
  if w.origin = .localEnd ∧ w.readySeen = false then
    let s := s.modPort n (Port.setPs (.waking { w with readySeen := true }))
    if w.waitTimer.isNone then s.endWake n else s
  else s

/-- An RDY symbol: reported in AWAKE, and in LISTEN and JOINT only in phase PARTNER; ignored elsewhere (R14, R54,
R55). -/
def State.hearRdy (n : PortId) (s : State) : State :=
  let p := s.port n
  if p.lpe.link = .up ∧ p.psc.rs ≠ .reviving then
    match p.psc.ps.partnerPhase with
    | some w => s.takeRdy n w
    | none => s
  else s

/-- RECEIVE_RDY. -/
def execReceiveRdy (n : PortId) (s : State) : Outcome :=
  running s (State.hearRdy n)

/-! ## Data frames -/

/-- The start of a received DATA frame: it clears a partner-offer-pending record (R30), and its delivery begins
with the opening word as soon as length and tag are known (R16). -/
def Port.beginData (header : Option RxHeader) (p : Port) : Port :=
  let p := p.setOffer none
  match header with
  | some h =>
      (p.deliver [.opening (frameWord h.length h.tag false)]).setRx
        (some (.data (some h) 0 (crcBytes crcInit (dataHeaderBytes h.length h.tag))))
  | none => p.setRx (some (.data none 0 crcInit))

/-- A frame start that the receiver hands on, sorted by its type byte (R13). A frame still unfinished has a line
error: a frame-start symbol is no symbol valid inside a frame (log entry 8). -/
def Port.sortFrame (type : Byte) (header : Option RxHeader) (p : Port) : Port :=
  let p := p.breakRx
  if type = typeData then p.beginData header
  else if type = typeAdvert ∨ type = typeEcho then p.setRx (some .management)
  else (p.count .mgmtDiscard).setRx (some .ignored)

/-- A frame start by RS (R14). -/
def Port.hearFrameStart (now : Nat) (type : Byte) (header : Option RxHeader) (p : Port) : Port :=
  if p.lpe.link = .up then
    match p.psc.rs with
    | .awake => p.sortFrame type header
    | .listen => p.unannounced now
    | .reviving => p
    | .joint => p
  else p

/-- RX_FRAME_START. -/
def execRxFrameStart (n : PortId) (type : Byte) (header : Option RxHeader) (s : State) : Outcome :=
  running s fun s => s.modPort n (Port.hearFrameStart s.now type header)

/-- A byte of a received DATA frame: delivered, or where 2048 bytes have been delivered the frame is cut (R16). -/
def Port.hearDataByte (b : Byte) (p : Port) : Port :=
  match p.ssp.rx with
  | some (.data (some h) count check) =>
      if count < Config.maxLength then
        (p.deliver [.byte b]).setRx (some (.data (some h) (count + 1) (crcByte check b)))
      else (p.closeWithError (some h)).setRx (some .ignored)
  | some (.data none _ _) => p
  | some .management => p
  | some .ignored => p
  | none => p

/-- RX_DATA_BYTE. -/
def execRxDataByte (n : PortId) (byte : Byte) (s : State) : Outcome :=
  running s fun s => s.modPort n (Port.hearDataByte byte)

/-- The frame ended without a line error: with its end symbol and a matching check sequence (R13). -/
def rxIntact (e : RxEnd) (check : BitVec 16) : Bool :=
  match e with
  | .normal hi lo => beWord hi lo == check
  | .errorMark => false
  | .badSymbol => false

/-- A length a DATA frame may have (R16). -/
def lengthInRange (h : RxHeader) : Bool :=
  Config.minLength ≤ h.length.toNat && h.length.toNat ≤ Config.maxLength

/-- The end of the frame being received (R13, R16): a DATA frame closes clean or with the error mark; a
management frame that ends here, and not as a reported ADVERT or ECHO, is damaged and discarded. A symbol that is not
valid inside a frame ends the frame as its end symbol does, with a line error (the model's choice, log entry 31). -/
def Port.hearFrameEnd (e : RxEnd) (p : Port) : Port :=
  match p.ssp.rx with
  | some (.data (some h) count check) =>
      if rxIntact e check && h.length.toNat == count && lengthInRange h then
        ((p.deliver (closingWords (some h) false)).count .rxFrames).setRx none
      else (p.closeWithError (some h)).setRx none
  | some (.data none _ _) => (p.closeWithError none).setRx none
  | some .management => (p.count .mgmtDiscard).setRx none
  | some .ignored => p.setRx none
  | none => p

/-- RX_FRAME_END. -/
def execRxFrameEnd (n : PortId) (ending : RxEnd) (s : State) : Outcome :=
  running s fun s => s.modPort n (Port.hearFrameEnd ending)

/-! ## Management frames -/

/-- A whole management frame has come: the one whose start has been taken has ended. Any other frame that is still
unfinished has a line error, since a frame-start symbol has come inside it (log entries 8 and 9). -/
def Port.endManagement (p : Port) : Port :=
  if p.ssp.rx = some .management then p.setRx none else p.breakRx

/-- A valid ADVERT: PA is replaced whole, PARTNER_ADVERT is set, and an ECHO with its seq is made pending
(R91, R92). -/
def Port.takeAdvert (a : Advert) (p : Port) : Port :=
  Port.raise .partnerAdvert
    { p with adu := { p.adu with pa := a.toPartner, echoPending := some a.seq } }

/-- The contents of a received ADVERT: none where it has a line error, that is where its check sequence does not match
or its body is not of 8 bytes (R13, R189). -/
def soundAdvert (frame : MgmtFrame) : Option Advert :=
  if checkMatches typeAdvert frame then parseAdvert frame.body else none

/-- The seq of a received ECHO, none where it has a line error (R13, R189). -/
def soundEcho (frame : MgmtFrame) : Option (BitVec 4) :=
  if checkMatches typeEcho frame then parseEcho frame.body else none

/-- A valid ADVERT at the port (R91, R92). The change of PA moves no port and withdraws no offer. The ECHO made pending
is a wake cause (R40), which wakes a port in DIM and in OFFER-DEEP (R27, R41, R48; log entry 26). -/
def State.takeAdvert (n : PortId) (a : Advert) (s : State) : State :=
  (s.modPort n (Port.takeAdvert a)).afterPending n

/-- An ADVERT by its body and check sequence (R13, R90, R91). -/
def State.hearAdvert (n : PortId) (frame : MgmtFrame) (s : State) : State :=
  if (s.port n).observesFrames then
    let s := s.modPort n Port.endManagement
    match soundAdvert frame with
    | none => s.modPort n (Port.count .mgmtDiscard)
    | some a =>
        if a.acceptable then s.takeAdvert n a else s.modPort n (Port.count .mgmtDiscard)
  else s

/-- RECEIVE_ADVERT. -/
def execReceiveAdvert (n : PortId) (frame : MgmtFrame) (s : State) : Outcome :=
  running s (State.hearAdvert n frame)

/-- The ECHO of our current seq ends the exchange (R88). -/
def Port.echoed (p : Port) : Port :=
  Port.raise .advertDone
    { p with adu := { p.adu with
        state := .echoed, echoTimer := none, advertPending := false, retry := 0 } }

/-- An ECHO by its body and check sequence (R13, R88). -/
def Port.hearEcho (now : Nat) (frame : MgmtFrame) (p : Port) : Port :=
  if p.observesFrames then
    let p := p.endManagement
    match soundEcho frame with
    | none => p.count .mgmtDiscard
    | some seq =>
        if p.adu.state = .pending ∧ seq = p.adu.seq then (p.echoed).idleUpdate now else p
  else p

/-- RECEIVE_ECHO. -/
def execReceiveEcho (n : PortId) (frame : MgmtFrame) (s : State) : Outcome :=
  running s fun s => s.modPort n (Port.hearEcho s.now frame)

end Sys2Proof.Machine
end

