-- ==== Sys2Proof/Machine/Stream.lean ====
section
/-! DEFINITION. Machine/Stream.lean: ingress frames at the system stream port (R105 to R111), the completion of a
frame on the line (R12, R87, R110, R114), and the release event (R130). -/

namespace Sys2Proof.Machine

/-- The frame in progress record changed (R105). -/
def Port.setIngress (g : Option Ingress) (p : Port) : Port := { p with ssp := { p.ssp with ingress := g } }

/-- A bypass frame whose system frame ends with abort or mismatch: DISC_ABORT, and the line frame will end with
the error mark (R110). -/
def Port.abortBypass (p : Port) : Port := (p.discard .discAbort).endBypass .errored

/-- The FILLING descriptor is removed with DISC_ABORT (R109). -/
def State.abortFilling (n : PortId) (s : State) : State :=
  match (s.port n).txq.fillingIdx with
  | some i => (s.removeAt n i .discAbort).afterRemoval n
  | none => s

/-- A frame still in progress at a new frame start ends as with the abort flag (R111). -/
def State.endEarlier (n : PortId) (s : State) : State :=
  match (s.port n).ssp.ingress with
  | none => s
  | some g => match g.route with
    | .queued => s.abortFilling n
    | .bypass => s.modPort n Port.abortBypass
    | .ignore => s

/-- A frame given route IGNORE at its start, counted as a discard (R106). -/
def State.ignoreFrame (n : PortId) (length : Nat) (tag : Byte) (c : Counter) (s : State) : State :=
  s.modPort n fun p => (p.discard c).setIngress (some { route := .ignore, length, tag, count := 0 })

/-- The decision at a frame start, by the first condition that holds (R106). -/
def State.decideFrame (n : PortId) (length : Nat) (tag : Byte) (s : State) : State :=
  let p := s.port n
  if p.lpe.link ≠ .up ∨ p.cfg.enable = false then s.ignoreFrame n length tag .discNolink
  else if s.holdoff n then s.ignoreFrame n length tag .discHoldoff
  else if length < Config.minLength ∨ Config.maxLength < length then s.ignoreFrame n length tag .discAbort
  else if p.mayBypass then
    s.modPort n fun p =>
      ((p.startBypass length tag).setIngress (some { route := .bypass, length, tag, count := 0 })).idleUpdate
        s.now
  else
    (s.modPort n (Port.setIngress (some { route := .queued, length, tag, count := 0 }))).admitFrame n length tag

/-- An ingress frame start with its opening word (R106, R111, R188). -/
def State.frameStart (n : PortId) (opening : Word) (s : State) : State :=
  (s.endEarlier n).decideFrame n (frameLength opening) (frameTag opening)

/-- SSP_FRAME_START. -/
def execSspFrameStart (n : PortId) (opening : Word) (s : State) : Outcome :=
  running s (State.frameStart n opening)

/-- The FILLING descriptor becomes COMPLETE (R109). -/
def Port.completeFilling (i : Nat) (p : Port) : Port :=
  { p with txq := { p.txq with queue := p.txq.queue.modify i fun d => { d with state := .complete } } }

/-- The end of a frame on route QUEUED: COMPLETE and a selection, or removal with DISC_ABORT (R109). -/
def State.endQueued (n : PortId) (bad : Bool) (s : State) : State :=
  if bad then (s.abortFilling n).modPort n (Port.setIngress none)
  else
    match (s.port n).txq.fillingIdx with
    | some i => (s.modPort n fun p => (p.completeFilling i).setIngress none).settle n
    | none => s.modPort n (Port.setIngress none)

/-- An ingress frame end with its closing word (R105, R109, R110, R188). -/
def State.frameEnd (n : PortId) (closing : Word) (s : State) : State :=
  match (s.port n).ssp.ingress with
  | none => s
  | some g =>
      let bad := frameAbort closing || g.count != g.length
      match g.route with
      | .ignore => s.modPort n (Port.setIngress none)
      | .queued => s.endQueued n bad
      | .bypass =>
          s.modPort n fun p =>
            (if bad then p.abortBypass else p.endBypass .clean).setIngress none

/-- SSP_FRAME_END. -/
def execSspFrameEnd (n : PortId) (closing : Word) (s : State) : Outcome :=
  running s (State.frameEnd n closing)

/-- A byte passed on to the line within a bypass frame (R110). -/
def Port.passByte (b : Byte) (p : Port) : Port :=
  match p.lpe.tx with
  | .busy (.bypass e) check => (p.emit [.byte b]).setTx (.busy (.bypass e) (crcByte check b))
  | _ => p

/-- An ingress byte by the route of its frame: always counted; within the header length written into the
descriptor's cells (QUEUED) or passed on to the line (BYPASS) (R105, R108, R110). -/
def State.ingressByte (n : PortId) (b : Byte) (s : State) : State :=
  match (s.port n).ssp.ingress with
  | none => s
  | some g =>
      let s' := s.modPort n (Port.setIngress (some { g with count := g.count + 1 }))
      if g.length ≤ g.count then s'
      else match g.route with
        | .ignore => s'
        | .bypass => s'.modPort n (Port.passByte b)
        | .queued =>
            match (s.port n).txq.queue.find? (·.state == .filling) with
            | some d => s'.modPool (Pool.writeByte d.cells g.count b)
            | none => s'

/-- INGRESS_BYTE_ARRIVAL. -/
def execIngressByteArrival (n : PortId) (byte : Byte) (s : State) : Outcome :=
  running s (State.ingressByte n byte)

/-- The normal end of a frame: its check sequence, most significant byte first, and the frame-end symbol (R12, R189). -/
def frameClose (check : BitVec 16) : LineTx := .frameEnd (beBytes check)

/-- The transmitter becomes IDLE with this end of the frame on the line (R12). -/
def Port.finishTx (last : LineTx) (p : Port) : Port := (p.emit [last]).setTx .idle

/-- The completion of a queued data frame: the head leaves the queue, its cells are freed, TX_FRAMES is counted
(R114). -/
def State.completeHead (n : PortId) (s : State) : State :=
  match (s.port n).txq.queue with
  | [] => s
  | d :: rest =>
      if d.state = .transmitting then
        ((s.modPort n fun p =>
            ({ p with txq := { p.txq with queue := rest } } : Port).count .txFrames).modPool
          (Pool.freeCells d.cells)).newHead n
      else s

/-- The completion of an ADVERT: the echo timer starts if the state is PENDING and the frame carries the current
seq (R87). -/
def Port.advertSent (now : Nat) (seq : BitVec 4) (p : Port) : Port :=
  if p.adu.state = .pending ∧ seq = p.adu.seq then
    { p with adu := { p.adu with echoTimer := after now Config.echoTime } }
  else p

/-- The completion of the frame in flight (R12): a bypass frame completes only once its system frame has ended
(R110). -/
def State.txComplete (n : PortId) (s : State) : State :=
  match (s.port n).lpe.tx with
  | .idle => s
  | .busy kind check =>
      match kind with
      | .queued => ((s.modPort n (Port.finishTx (frameClose check))).completeHead n).settle n
      | .bypass .running => s
      | .bypass .clean =>
          (s.modPort n fun p => (p.finishTx (frameClose check)).count .txFrames).settle n
      | .bypass .errored => (s.modPort n (Port.finishTx .frameError)).settle n
      | .advert seq =>
          (s.modPort n fun p => (p.finishTx (frameClose check)).advertSent s.now seq).settle n
      | .echo => (s.modPort n (Port.finishTx (frameClose check))).settle n

/-- TRANSMISSION_COMPLETION. -/
def execTransmissionCompletion (n : PortId) (s : State) : Outcome :=
  running s (State.txComplete n)

/-- The release watch cleared. -/
def Port.clearRelease (p : Port) : Port := { p with txq := { p.txq with releaseWatch := none } }

/-- The release event of the head: a selection is made (R126, R130). -/
def State.releaseDue (n : PortId) (s : State) : State := (s.modPort n Port.clearRelease).settle n

/-- RELEASE_EVENT. -/
def execReleaseEvent (n : PortId) (s : State) : Outcome :=
  running s fun s => onExpiry (s.port n).txq.releaseWatch (State.releaseDue n) s

end Sys2Proof.Machine
end

