-- ==== Sys2Proof/Machine/Timers.lean ====
section
/-! DEFINITION. Machine/Timers.lean: the expiries of the timers of a port's power state, its wake, its advert
exchange, its queue and its governor, of the residency timer, and the arbiter's grant. Each expiry stops its timer
first and then acts as its rule states. -/

namespace Sys2Proof.Machine

/-! ## Descent (chapter 2) -/

/-- Idle timer expiry (R24). -/
def State.idleExpiry (n : PortId) (s : State) : State :=
  let s := s.modPort n fun p => { p with psc := { p.psc with idleTimer := none } }
  let p := s.port n
  if p.psc.ps = .active then
    if p.eligible .dim then
      let s := s.modPort n fun p => (p.setPs .dim).startDeepTimer s.now
      if p.psc.hasOffer .deep && p.eligible .deep then (s.modPort n (Port.say .ofd)).enterDeep n
      else s.wakeCheck n
    else s.modPort n fun p => { p with psc := { p.psc with idleTimer := after s.now p.cfg.dimIdle.toNat } }
  else s

/-- IDLE_TIMER_EXPIRY. -/
def execIdleTimerExpiry (n : PortId) (s : State) : Outcome :=
  running s fun s => onExpiry (s.port n).psc.idleTimer (State.idleExpiry n) s

/-- Deep timer expiry (R25). -/
def State.deepExpiry (n : PortId) (s : State) : State :=
  let s := s.modPort n fun p => { p with psc := { p.psc with deepTimer := none } }
  let p := s.port n
  if p.psc.ps = .dim then
    if p.eligible .deep then
      (s.modPort n fun p => ((p.say .ofd).setPs .offerDeep).startOfferTimer s.now).wakeCheck n
    else s.modPort n (Port.startDeepTimer s.now)
  else s

/-- DEEP_TIMER_EXPIRY. -/
def execDeepTimerExpiry (n : PortId) (s : State) : Outcome :=
  running s fun s => onExpiry (s.port n).psc.deepTimer (State.deepExpiry n) s

/-- An offer timeout: counted, and a failure is reported to DGV n (R28, R38, R143). -/
def Port.offerTimedOut (now : Nat) (p : Port) : Port := (p.count .offerTimeout).failure now

/-- Offer timer expiry (R28, R38). -/
def State.offerExpiry (n : PortId) (s : State) : State :=
  let s := s.modPort n fun p => { p with psc := { p.psc with offerTimer := none } }
  match (s.port n).psc.ps with
  | .offerDeep =>
      (s.modPort n fun p => ((p.setPs .dim).startDeepTimer s.now).offerTimedOut s.now).wakeCheck n
  | .offerDormant =>
      (s.modPort n fun p => (p.returnDeep s.now).offerTimedOut s.now).wakeCheck n
  | _ => s

/-- OFFER_TIMER_EXPIRY. -/
def execOfferTimerExpiry (n : PortId) (s : State) : Outcome :=
  running s fun s => onExpiry (s.port n).psc.offerTimer (State.offerExpiry n) s

/-- Dormant timer expiry (R35). -/
def State.dormantExpiry (n : PortId) (s : State) : State :=
  let s := s.modPort n fun p => { p with psc := { p.psc with dormantTimer := none } }
  let p := s.port n
  if p.psc.ps = .deep then
    if p.eligible .dormant then
      let s := s.modPort n (Port.say .ofm)
      if p.psc.hasOffer .dormant then s.enterDormant n
      else (s.modPort n fun p => (p.setPs .offerDormant).startOfferTimer s.now).wakeCheck n
    else s.modPort n (Port.startDormantTimer s.now)
  else s

/-- DORMANT_TIMER_EXPIRY. -/
def execDormantTimerExpiry (n : PortId) (s : State) : Outcome :=
  running s fun s => onExpiry (s.port n).psc.dormantTimer (State.dormantExpiry n) s

/-- Refresh send timer expiry: one RFR, and the timer restarts (R32). -/
def Port.refreshSendDue (now : Nat) (p : Port) : Port :=
  if p.psc.ps.refreshes then (p.say .rfr).startRefreshSend now
  else { p with psc := { p.psc with refreshSend := none } }

/-- REFRESH_SEND_EXPIRY. -/
def execRefreshSendExpiry (n : PortId) (s : State) : Outcome :=
  running s fun s =>
    onExpiry (s.port n).psc.refreshSend (fun s => s.modPort n (Port.refreshSendDue s.now)) s

/-- Refresh watch expiry: REFRESH_LOSS, a failure, and a restart order (R34). -/
def State.refreshLost (n : PortId) (s : State) : State :=
  (s.modPort n fun p =>
    ({ p with psc := { p.psc with refreshWatch := none } } : Port).refreshLost s.now).restartOrder n

/-- REFRESH_WATCH_EXPIRY. -/
def execRefreshWatchExpiry (n : PortId) (s : State) : Outcome :=
  running s fun s => onExpiry (s.port n).psc.refreshWatch (State.refreshLost n) s

/-- OFFER_RECORD_LAPSE (R30): the partner-offer-pending record is absent once the time base reaches its expiry. -/
def execOfferRecordLapse (n : PortId) (s : State) : Outcome :=
  running s fun s =>
    onExpiry ((s.port n).psc.offer.map (·.expiry)) (fun s => s.modPort n (Port.setOffer none)) s

/-! ## Waking (chapter 3) -/

/-- The SELF timer of a wake, where one is in progress. -/
def PS.selfTimer : PS → Option Nat
  | .waking w => w.selfTimer
  | _ => none

/-- The wait timer of a wake. -/
def PS.waitTimer : PS → Option Nat
  | .waking w => w.waitTimer
  | _ => none

/-- The wake of a port, where one is in progress. -/
def PS.wake : PS → Option WakeRecord
  | .waking w => some w
  | _ => none

/-- The receiver at the end of a SELF phase of self-depth DIM: AWAKE, a revival ended without its RDY, the last
fill record unchanged (R51). -/
def Port.wakeReceiver (p : Port) : Port :=
  { p with psc := { p.psc with
      rs := match p.psc.rs with
        | .awake => .awake
        | .listen => .awake
        | .reviving => .awake
        | .joint => .joint
      revival := none } }

/-- The end of the SELF phase of the wake `w` at the port: RDY and the end of the wake where it is a PARTNER wake
or an ALR has been seen, ALR and phase PARTNER otherwise (R51, R53). -/
def State.selfEnd (n : PortId) (w : WakeRecord) (s : State) : State :=
  match w.origin with
  | .partner => s.endWakeRdy n
  | .localEnd =>
      let s := if w.selfDepth = .dim then s.modPort n Port.wakeReceiver else s
      if w.alertSeen then s.endWakeRdy n
      else s.modPort n fun p => (p.say .alr).beginPartnerPhase s.now w

/-- SELF timer expiry: the unit that a budgeted SELF phase holds is released first (R51, R53, R79). -/
def State.selfExpiry (n : PortId) (s : State) : State :=
  match (s.port n).psc.ps.wake with
  | some w => (if (s.port n).psc.ps.holdsUnit then s.releaseUnit else s).selfEnd n w
  | none => s

/-- SELF_TIMER_EXPIRY. -/
def execSelfTimerExpiry (n : PortId) (s : State) : Outcome :=
  running s fun s => onExpiry (s.port n).psc.ps.selfTimer (State.selfExpiry n) s

/-- Wait timer expiry in phase PARTNER: the wake ends if ready-seen is set (R56). -/
def State.waitExpiry (n : PortId) (s : State) : State :=
  match (s.port n).psc.ps.partnerPhase with
  | some w =>
      let s := s.modPort n (Port.setPs (.waking { w with waitTimer := none }))
      if w.readySeen then s.endWake n else s
  | none => s

/-- WAIT_TIMER_EXPIRY. -/
def execWaitTimerExpiry (n : PortId) (s : State) : Outcome :=
  running s fun s => onExpiry (s.port n).psc.ps.waitTimer (State.waitExpiry n) s

/-- Deadline timer expiry: WAKE_FAIL is counted and set, a failure is reported, and the link restarts (R58). -/
def State.wakeFailed (n : PortId) (s : State) : State :=
  match (s.port n).psc.ps.wake with
  | some w =>
      (s.modPort n fun p => (p.setPs (.waking { w with deadlineTimer := none })).wakeMissed s.now).restartOrder n
  | none => s

/-- DEADLINE_TIMER_EXPIRY. -/
def execDeadlineTimerExpiry (n : PortId) (s : State) : Outcome :=
  running s fun s => onExpiry (s.port n).psc.ps.deadlineTimer (State.wakeFailed n) s

/-- Revival timer expiry: RS becomes AWAKE and RDY is sent (R64). -/
def Port.revived (p : Port) : Port :=
  Port.say .rdy { p with psc := { p.psc with rs := .awake, revival := none } }

/-- REVIVAL_TIMER_EXPIRY. -/
def execRevivalTimerExpiry (n : PortId) (s : State) : Outcome :=
  running s fun s =>
    onExpiry ((s.port n).psc.revival.map (·.expiry)) (fun s => s.modPort n Port.revived) s

/-- GRANT (R74, R75): the arbiter tests its grant condition and grants while it holds. -/
def execGrant (s : State) : Outcome := running s State.testGrant

/-! ## Advert exchange (chapter 5) -/

/-- The echo timer stopped. -/
def Port.stopEcho (p : Port) : Port := { p with adu := { p.adu with echoTimer := none } }

/-- A retry of the ADVERT is made pending (R89). -/
def Port.retryAdvert (p : Port) : Port :=
  { p with adu := { p.adu with retry := p.adu.retry + 1, advertPending := true } }

/-- The exchange ends in FAILED (R89). -/
def Port.advertFailed (p : Port) : Port :=
  Port.raise .advertFail { p with adu := { p.adu with state := .failed, advertPending := false } }

/-- Echo timer expiry (R89). -/
def State.echoExpiry (n : PortId) (s : State) : State :=
  let s := s.modPort n Port.stopEcho
  let p := s.port n
  if p.adu.state = .pending then
    if p.adu.retry < Config.maxRetries then (s.modPort n Port.retryAdvert).afterPending n
    else s.modPort n fun p => (p.advertFailed).idleUpdate s.now
  else s

/-- ECHO_TIMER_EXPIRY. -/
def execEchoTimerExpiry (n : PortId) (s : State) : Outcome :=
  running s fun s => onExpiry (s.port n).adu.echoTimer (State.echoExpiry n) s

/-! ## Queue (chapters 6 and 7) -/

/-- Candidates whose deadline the time base has reached, at most `k` of them (R134). Each removal, with DISC_AGED, has its
own effects: the withdrawal and the selection follow it, and the candidate that is then the oldest not TRANSMITTING is
looked at next, so that a new head which that selection starts is sent (log entry 29). -/
def agingLoop (n : PortId) : Nat → State → State
  | 0, s => s
  | k + 1, s =>
      match (s.port n).txq.agingDeadline, (s.port n).txq.candidateIdx with
      | some t, some i =>
          if t ≤ s.now then agingLoop n k ((s.removeAt n i .discAged).afterRemoval n) else s
      | _, _ => s

/-- The aging expiry (R134). A deadline that no candidate has, in a state that no run reaches, is taken back. -/
def State.agingDue (n : PortId) (s : State) : State :=
  if (s.port n).txq.candidateIdx.isNone then s.modPort n Port.takeCandidate
  else agingLoop n (s.port n).txq.queue.length s

/-- AGING_EXPIRY. -/
def execAgingExpiry (n : PortId) (s : State) : Outcome :=
  running s fun s => onExpiry (s.port n).txq.agingDeadline (State.agingDue n) s

/-- The urgency watch cleared. -/
def Port.clearUrgency (p : Port) : Port := { p with txq := { p.txq with urgencyWatch := none } }

/-- The urgency-age expiry: the watch becomes absent, and the arbiter tests the port for promotion (R73, R137). -/
def State.urgencyDue (n : PortId) (s : State) : State := (s.modPort n Port.clearUrgency).promoteCheck n

/-- URGENCY_AGE_EXPIRY. -/
def execUrgencyAgeExpiry (n : PortId) (s : State) : Outcome :=
  running s fun s => onExpiry (s.port n).txq.urgencyWatch (State.urgencyDue n) s

/-- The time of the next removal of a FLUSH moved on by 1 µs (R118). -/
def Port.scheduleRemoval (now : Nat) (p : Port) : Port :=
  { p with txq := { p.txq with
      flush := p.txq.flush.map fun f => { f with next := now + Config.flushStep } } }

/-- One removal of a FLUSH: the oldest marked descriptor goes with DISC_FLUSH (R118, R119). -/
def State.flushDue (n : PortId) (s : State) : State :=
  let s := s.modPort n (Port.scheduleRemoval s.now)
  match (s.port n).txq.queue.findIdx? (·.mark) with
  | some i => (s.removeAt n i .discFlush).afterRemoval n
  | none => s.modPort n Port.endFlush

/-- FLUSH_REMOVAL. -/
def execFlushRemoval (n : PortId) (s : State) : Outcome :=
  running s fun s => onExpiry ((s.port n).txq.flush.map (·.next)) (State.flushDue n) s

/-! ## Governor and residency (chapters 8 and 10) -/

/-- Restore timer expiry: the ceiling rises one level if it is below max_ceiling, and the timer restarts (R146). -/
def Port.restoreDue (now : Nat) (p : Port) : Port :=
  let p := if p.dgv.ceiling.level < p.cfg.maxCeiling.level then p.raiseCeiling p.dgv.ceiling.higher else p
  p.startRestore now

/-- RESTORE_TIMER_EXPIRY. -/
def execRestoreTimerExpiry (n : PortId) (s : State) : Outcome :=
  running s fun s => onExpiry (s.port n).dgv.restore (fun s => s.modPort n (Port.restoreDue s.now)) s

/-- One residency unit of a port (R173). -/
def Port.countResidency (p : Port) : Port :=
  match p.psc.ps.residency with
  | some c => p.count c
  | none => p

/-- Residency timer expiry: one unit for every port not OFFLINE, and the timer restarts (R173). -/
def State.residencyDue (s : State) : State :=
  { s with
    ports := s.ports.map Port.countResidency
    dev := { s.dev with residency := after s.now Config.residencyTime } }

/-- RESIDENCY_TIMER_EXPIRY. -/
def execResidencyTimerExpiry (s : State) : Outcome :=
  running s fun s => onExpiry s.dev.residency State.residencyDue s

end Sys2Proof.Machine
end

