-- ==== Sys2Proof/Machine/Dispatch.lean ====
section
/-! DEFINITION. Machine/Dispatch.lean: one arm per command. -/

namespace Sys2Proof.Machine

def exec (i : Instr) (s : State) : Host.Outcome State Fault Refusal :=
  match i with
  | .pinReset => Sys2Proof.Machine.execPinReset s
  | .resetnRelease => Sys2Proof.Machine.execResetnRelease s
  | .signalPresent n => Sys2Proof.Machine.execSignalPresent n s
  | .signalLost n => Sys2Proof.Machine.execSignalLost n s
  | .acquireTimerExpiry n => Sys2Proof.Machine.execAcquireTimerExpiry n s
  | .restartTimerExpiry n => Sys2Proof.Machine.execRestartTimerExpiry n s
  | .receiveIdl n => Sys2Proof.Machine.execReceiveIdl n s
  | .receiveDim n => Sys2Proof.Machine.execReceiveDim n s
  | .receiveOfd n => Sys2Proof.Machine.execReceiveOfd n s
  | .receiveOfm n => Sys2Proof.Machine.execReceiveOfm n s
  | .receiveRfr n => Sys2Proof.Machine.execReceiveRfr n s
  | .receiveAlr n => Sys2Proof.Machine.execReceiveAlr n s
  | .receiveRdy n => Sys2Proof.Machine.execReceiveRdy n s
  | .rxFrameStart n type header => Sys2Proof.Machine.execRxFrameStart n type header s
  | .rxFrameEnd n ending => Sys2Proof.Machine.execRxFrameEnd n ending s
  | .receiveAdvert n frame => Sys2Proof.Machine.execReceiveAdvert n frame s
  | .receiveEcho n frame => Sys2Proof.Machine.execReceiveEcho n frame s
  | .sspFrameStart n opening => Sys2Proof.Machine.execSspFrameStart n opening s
  | .sspFrameEnd n closing => Sys2Proof.Machine.execSspFrameEnd n closing s
  | .transmissionCompletion n => Sys2Proof.Machine.execTransmissionCompletion n s
  | .releaseEvent n => Sys2Proof.Machine.execReleaseEvent n s
  | .idleTimerExpiry n => Sys2Proof.Machine.execIdleTimerExpiry n s
  | .deepTimerExpiry n => Sys2Proof.Machine.execDeepTimerExpiry n s
  | .offerTimerExpiry n => Sys2Proof.Machine.execOfferTimerExpiry n s
  | .dormantTimerExpiry n => Sys2Proof.Machine.execDormantTimerExpiry n s
  | .refreshSendExpiry n => Sys2Proof.Machine.execRefreshSendExpiry n s
  | .refreshWatchExpiry n => Sys2Proof.Machine.execRefreshWatchExpiry n s
  | .offerRecordLapse n => Sys2Proof.Machine.execOfferRecordLapse n s
  | .selfTimerExpiry n => Sys2Proof.Machine.execSelfTimerExpiry n s
  | .waitTimerExpiry n => Sys2Proof.Machine.execWaitTimerExpiry n s
  | .deadlineTimerExpiry n => Sys2Proof.Machine.execDeadlineTimerExpiry n s
  | .revivalTimerExpiry n => Sys2Proof.Machine.execRevivalTimerExpiry n s
  | .grant => Sys2Proof.Machine.execGrant s
  | .echoTimerExpiry n => Sys2Proof.Machine.execEchoTimerExpiry n s
  | .agingExpiry n => Sys2Proof.Machine.execAgingExpiry n s
  | .urgencyAgeExpiry n => Sys2Proof.Machine.execUrgencyAgeExpiry n s
  | .flushRemoval n => Sys2Proof.Machine.execFlushRemoval n s
  | .restoreTimerExpiry n => Sys2Proof.Machine.execRestoreTimerExpiry n s
  | .residencyTimerExpiry => Sys2Proof.Machine.execResidencyTimerExpiry s
  | .apply n => Sys2Proof.Machine.execApply n s
  | .forceWake n => Sys2Proof.Machine.execForceWake n s
  | .flush n => Sys2Proof.Machine.execFlush n s
  | .sendAdvert n => Sys2Proof.Machine.execSendAdvert n s
  | .restoreCeiling n => Sys2Proof.Machine.execRestoreCeiling n s
  | .clearCounters n => Sys2Proof.Machine.execClearCounters n s
  | .portReset n => Sys2Proof.Machine.execPortReset n s
  | .unknownCommand n => Sys2Proof.Machine.execUnknownCommand n s
  | .softReset => Sys2Proof.Machine.execSoftReset s
  | .devCmdInvalid => Sys2Proof.Machine.execDevCmdInvalid s
  | .writeW value => Sys2Proof.Machine.execWriteW value s
  | .writePoolLow value => Sys2Proof.Machine.execWritePoolLow value s
  | .flagClearWrite loc value => Sys2Proof.Machine.execFlagClearWrite loc value s
  | .enableWrite loc value => Sys2Proof.Machine.execEnableWrite loc value s
  | .registerWrite offset value => Sys2Proof.Machine.execRegisterWrite offset value s
  | .faultyAccess access => Sys2Proof.Machine.execFaultyAccess access s
  | .ingressByteArrival n byte => Sys2Proof.Machine.execIngressByteArrival n byte s
  | .rxDataByte n byte => Sys2Proof.Machine.execRxDataByte n byte s

end Sys2Proof.Machine
end

