-- ==== Sys2Proof/Machine/Schedule.lean ====
section
/-! DEFINITION. Machine/Schedule.lean: the block's own timers as senders of commands (log entries 2 and 3): which
expiries are due on the time base, and the order in which those that fall together are taken. -/

namespace Sys2Proof.Machine

/-- The timers of port n, each with the command of its expiry. -/
def Port.timers (n : PortId) (p : Port) : List (Option Nat × Instr) :=
  [ (p.lpe.acquire, .acquireTimerExpiry n), (p.lpe.restart, .restartTimerExpiry n),
    (p.psc.idleTimer, .idleTimerExpiry n), (p.psc.deepTimer, .deepTimerExpiry n),
    (p.psc.offerTimer, .offerTimerExpiry n), (p.psc.dormantTimer, .dormantTimerExpiry n),
    (p.psc.refreshSend, .refreshSendExpiry n), (p.psc.refreshWatch, .refreshWatchExpiry n),
    (p.psc.offer.map (·.expiry), .offerRecordLapse n),
    (p.psc.ps.selfTimer, .selfTimerExpiry n), (p.psc.ps.waitTimer, .waitTimerExpiry n),
    (p.psc.ps.deadlineTimer, .deadlineTimerExpiry n),
    (p.psc.revival.map (·.expiry), .revivalTimerExpiry n),
    (p.adu.echoTimer, .echoTimerExpiry n),
    (p.txq.releaseWatch, .releaseEvent n), (p.txq.agingDeadline, .agingExpiry n),
    (p.txq.urgencyWatch, .urgencyAgeExpiry n), (p.txq.flush.map (·.next), .flushRemoval n),
    (p.dgv.restore, .restoreTimerExpiry n) ]

/-- All timers of the device. -/
def State.timers (s : State) : List (Option Nat × Instr) :=
  allPorts.flatMap (fun n => (s.port n).timers n) ++ [(s.dev.residency, .residencyTimerExpiry)]

/-- The expiries that the time base has reached. -/
def State.due (s : State) : List Instr := (s.timers.filter fun t => isDue s.now t.1).map (·.2)

/-- One due expiry put in the queue; where several fall together, one of which nothing is known (log entry 3). The
others are looked at again when it has been taken, since it may stop or restart them. -/
def State.enqueueDue (s : State) : State :=
  match s.due with
  | [] => s
  | [c] => { s with pending := s.pending ++ [c] }
  | l => { s with
      pending := s.pending ++ (l[Config.tieBreak s.draws % l.length]?).toList
      draws := s.draws + 1 }

/-- Time passes while no command waits (log entry 2): an expiry already due is taken first; otherwise the time base
moves on by 1 µs and an expiry it reaches is put in the queue. While RESETN is asserted nothing happens. -/
def State.tick (s : State) : State :=
  if s.resetHeld then s
  else
    match s.due with
    | [] => ({ s with now := s.now + 1 } : State).enqueueDue
    | _ => s.enqueueDue

end Sys2Proof.Machine
end

