-- ==== Sys2Proof/Safety.lean ====
section
/-! DEFINITION. Safety.lean: what counts as a safe state of the device, law by law, in the terms the claims use, and
the few notions those claims share. Every law here is one the Guide states; none is used by a meaning. -/

namespace Sys2Proof.Machine

/-! ## Notions shared by the claims -/

/-- A 32-bit counter after `k` more events: it stops at its largest value (R172). -/
def satAdd (c : BitVec 32) (k : Nat) : BitVec 32 := BitVec.ofNat 32 (min (c.toNat + k) 4294967295)

/-- The aging deadline that R133 gives a queue under a configuration: that of its oldest descriptor that is not
TRANSMITTING. -/
def deadlineFor (cfg : PortConfig) (queue : List Descriptor) : Option Nat :=
  match queue.find? (fun d => d.state != .transmitting) with
  | none => none
  | some d => if cfg.ageLimit = 0 then none else some (d.admission + cfg.ageLimit.toNat * 1000)

/-- The wake record of a wake that begins at `now` (R47, R48, R49): phase SELF, nothing seen yet but what `alert`
says, the SELF timer running for the self-wake time `self`. -/
def newWake (origin : Origin) (selfDepth waitDepth : SleepDepth) (budgeted alert : Bool) (now self : Nat) :
    WakeRecord where
  origin := origin
  selfDepth := selfDepth
  waitDepth := waitDepth
  phase := .self
  budgeted := budgeted
  alertSeen := alert
  readySeen := false
  selfDuration := self
  waitDuration := none
  deadlineDuration := none
  selfTimer := some (now + self)
  waitTimer := none
  deadlineTimer := none

/-- PSC n in a wake: the six timers of R18 stand stopped (R47). -/
def inWake (c : Psc) (w : WakeRecord) : Psc :=
  { c with ps := .waking w, idleTimer := none, deepTimer := none, dormantTimer := none, offerTimer := none,
           refreshSend := none, refreshWatch := none }

/-- PSC n at the end of a wake in ACTIVE (R60, R64), where none of the timers of R18 runs (R33; log entry 28). -/
def wakeEnded (c : Psc) : Psc :=
  { c with ps := .active, rs := .awake, force := false, revival := none, refreshWatch := none }

/-- A bypass frame in flight that no discard counter has counted yet (R110, R120). -/
def uncounted (tx : Transmitter) : Bool :=
  match tx with
  | .busy (.bypass .running) _ => true
  | .busy (.bypass .clean) _ => true
  | _ => false

/-- A DATA frame is being delivered at egress (R16). -/
def delivering (rx : Option RxFrame) : Bool :=
  match rx with
  | some (.data _ _ _) => true
  | _ => false

/-- What egress is given where the frame being received is cut: a DATA frame's closing with the error mark (R16). -/
def cutWords (rx : Option RxFrame) : List EgressTx :=
  match rx with
  | some (.data (some h) _ _) => [.closing (frameWord h.length h.tag true)]
  | some (.data none _ _) => [.opening (frameWord 0 0 false), .closing (frameWord 0 0 true)]
  | _ => []

/-- What a word asked for by PSC n puts on the line: the word while the link is UP, nothing otherwise (R10). -/
def said (link : LinkState) (w : OneShot) : List LineTx := if link = .up then [.word w] else []

/-- Port n with its receiver roused by unannounced activity (R14, R63): RX_UNANNOUNCED counted, RS REVIVING with the
revival timer running 2 µs, no fill known. -/
def roused (now : Nat) (p : Port) : Port := { p with
  lpe := { p.lpe with lastFill := none }
  psc := { p.psc with rs := .reviving, revival := some { cause := .activity, expiry := now + 2 } }
  counters := { p.counters with rxUnannounced := satAdd p.counters.rxUnannounced 1 } }

/-- Port n entering DEEP for the first time in the line's DEEP period, with these words sent (R31, R16, R20): the
receiver JOINT, no fill known, a frame being delivered cut, a record of DEEP cleared, and of the six timers those of
refresh and the dormant timer started. -/
def asleepDeep (now : Nat) (out : List LineTx) (p : Port) : Port := { p with
  lpe := { p.lpe with lastFill := none }
  psc := { p.psc with
    ps := .deep
    rs := .joint
    offer := if ∃ o, p.psc.offer = some o ∧ o.depth = .deep then none else p.psc.offer
    revival := none
    idleTimer := none
    deepTimer := none
    dormantTimer := some (now + p.cfg.dormantIdle.toNat * 1000)
    offerTimer := none
    refreshSend := some (now + p.cfg.refreshInterval.toNat * 1000)
    refreshWatch := some (now + 3 * p.adu.pa.refreshMs.toNat * 1000) }
  ssp := { p.ssp with rx := none }
  counters := { p.counters with rxErr := satAdd p.counters.rxErr (delivering p.ssp.rx).toNat }
  lineOut := p.lineOut ++ out
  egressOut := p.egressOut ++ cutWords p.ssp.rx }

/-- Port n entering DORMANT, with these words sent (R39): all six timers stopped, no record. -/
def asleepDormant (out : List LineTx) (p : Port) : Port := { p with
  psc := { p.psc with
    ps := .dormant
    offer := none
    idleTimer := none
    deepTimer := none
    dormantTimer := none
    offerTimer := none
    refreshSend := none
    refreshWatch := none }
  lineOut := p.lineOut ++ out }

/-- What becomes of the port `q` where at the port `p` a refresh loss or a missed wake falls at this moment (R34, R58,
R152): the refresh watch, or the deadline of a wake, has been reached. It is counted, WAKE_FAIL is set for a wake, and a
failure is reported (R143). -/
def failedAt (now : Nat) (p q : Port) : Port :=
  let refresh : Bool := match p.psc.refreshWatch with
    | some x => x ≤ now
    | none => false
  let missed : Bool := match p.psc.ps with
    | .waking w => match w.deadlineTimer with
      | some x => x ≤ now
      | none => false
    | _ => false
  let q := if refresh then Port.failure now { q with
      counters := { q.counters with refreshLoss := satAdd q.counters.refreshLoss 1 } } else q
  if missed then Port.failure now { q with
      counters := { q.counters with wakeFail := satAdd q.counters.wakeFail 1 }
      flags := q.flags ||| BitVec.twoPow 11 7 } else q

/-- The grants that a test of the grant condition makes (R74): none where the condition is false; otherwise the head
leaves the queue, the count rises, its port begins a budgeted LOCAL wake where it is in GRANT-WAIT, with a refresh watch
kept that has reached its end (R75; log entry 28), and the condition is tested again. -/
inductive Grants : State → State → Prop where
  | stop (s : State) : s.wba.w ≤ s.wba.count ∨ s.wba.queue = [] → Grants s s
  | grant (s t : State) (e : WbaEntry) (rest : List WbaEntry) (r : GrantWait) :
      s.wba.count < s.wba.w → s.wba.queue = e :: rest → (s.port e.port).psc.ps = .grantWait r →
      Grants
        (({ s with wba := { s.wba with count := s.wba.count + 1, queue := rest } } : State).setPort e.port
          (let p := s.port e.port
           let wait : JointDepth := if ∃ o, p.psc.offer = some o ∧ o.depth = .dormant then .dormant else r.waitDepth
           { p with
             psc := { inWake p.psc
                 (newWake .localEnd r.fromDepth.toSleep wait.toSleep true false s.now
                   (if r.fromDepth = .deep then 40 else 1500)) with
               refreshWatch := p.psc.refreshWatch.filter fun x => x ≤ s.now }
             counters := { p.counters with wakesLocal := satAdd p.counters.wakesLocal 1 } }))
        t →
      Grants s t
  | skip (s t : State) (e : WbaEntry) (rest : List WbaEntry) :
      s.wba.count < s.wba.w → s.wba.queue = e :: rest → (s.port e.port).psc.ps.isGrantWait = false →
      Grants { s with wba := { s.wba with count := s.wba.count + 1, queue := rest } } t →
      Grants s t

/-- What an aging expiry does at TXQ n (R134): while the time base has reached the deadline of the aging candidate, that
candidate goes with DISC_AGED, and the withdrawal of a port whose cause has vanished (R43), the selection and the idle
timer follow its removal. -/
inductive AgedOut (n : PortId) : State → State → Prop where
  | stop (s : State) :
      (∀ x i, (s.port n).txq.agingDeadline = some x →
        (s.port n).txq.queue.findIdx? (fun d => d.state != .transmitting) = some i → s.now < x) →
      AgedOut n s s
  | remove (s t : State) (x i : Nat) :
      (s.port n).txq.agingDeadline = some x →
      (s.port n).txq.queue.findIdx? (fun d => d.state != .transmitting) = some i → x ≤ s.now →
      AgedOut n (((s.removeAt n i .discAged).withdrawCheck n).settle n) t → AgedOut n s t

/-! ## Laws of one port -/

/-- What a port whose link is not UP holds (R6, R45, R96, R113, R120, R139, R148), and what an UP link implies (R8,
R45, R83). -/
structure Port.LinkLaw (p : Port) : Prop where
  psc : p.lpe.link ≠ .up → p.psc = {}
  txq : p.lpe.link ≠ .up → p.txq = {}
  tx : p.lpe.link ≠ .up → p.lpe.tx = .idle
  rx : p.lpe.link ≠ .up → p.ssp.rx = none
  adu : p.lpe.link ≠ .up → p.adu.linkLost = p.adu
  restore : p.lpe.link ≠ .up → p.dgv.restore = none
  ingress : p.lpe.link ≠ .up → ∀ g, p.ssp.ingress = some g → g.route = .ignore
  enabled : p.cfg.enable = false → p.lpe.link = .down
  online : p.lpe.link = .up → p.psc.ps ≠ .offline
  advertised : p.lpe.link = .up → p.adu.state ≠ .unsent

/-- A joint depth, GRANT-WAIT, or a wake from a joint depth: the states in which RS is JOINT (section 2.1, R20). -/
def PS.joint : PS → Prop
  | .deep | .offerDormant | .dormant | .grantWait _ => True
  | .waking w => w.selfDepth ≠ .dim
  | .offline | .active | .dim | .offerDeep => False

/-- The states that are entered only with PA valid (R21, R52, R94). -/
def PS.needsPartner : PS → Prop
  | .offerDeep | .deep | .offerDormant | .dormant | .grantWait _ => True
  | .waking w => w.waitDepth ≠ .dim
  | .offline | .active | .dim => False

/-- The sleep state of a port is of one piece: RS JOINT exactly in the joint states, REVIVING exactly while a revival
runs, PA valid wherever it is needed, each timer of R18 running exactly in its states (but for a refresh watch kept at a
grant, in the LOCAL wake from DEEP, R75, log entry 28), and of a wake's timers the SELF timer in phase SELF alone, the
phase of every PARTNER wake (R47, R49). -/
structure Port.SleepLaw (p : Port) : Prop where
  joint : p.psc.rs = .joint ↔ p.psc.ps.joint
  reviving : p.psc.rs = .reviving ↔ p.psc.revival.isSome = true
  partner : p.psc.ps.needsPartner → p.adu.pa.valid = true
  idle : p.psc.idleTimer.isSome = true → p.psc.ps = .active
  deep : p.psc.deepTimer.isSome = true ↔ p.psc.ps = .dim
  offer : p.psc.offerTimer.isSome = true ↔ p.psc.ps = .offerDeep ∨ p.psc.ps = .offerDormant
  dormant : p.psc.dormantTimer.isSome = true ↔ p.psc.ps = .deep
  refreshSend : p.psc.refreshSend.isSome = true ↔ p.psc.ps.refreshes = true
  refreshWatch : p.psc.ps.refreshes = true → p.psc.refreshWatch.isSome = true
  watched : p.psc.refreshWatch.isSome = true → p.psc.ps.refreshes = true ∨
    ∃ w, p.psc.ps = .waking w ∧ w.origin = .localEnd ∧ w.selfDepth = .deep
  self : ∀ w, p.psc.ps = .waking w → (w.phase = .self ↔ w.selfTimer.isSome = true)
  later : ∀ w, p.psc.ps = .waking w → w.phase = .self → w.waitTimer = none ∧ w.deadlineTimer = none
  single : ∀ w, p.psc.ps = .waking w → w.origin = .partner → w.phase = .self

/-- The live configuration satisfies the tests of APPLY that read it alone (R154, R159), the failure counter stands
below the threshold and the ceiling at or below max_ceiling (R141). -/
structure Port.GovernorLaw (p : Port) : Prop where
  range : p.cfg.inRange = true
  aging : p.cfg.agingFits = true
  failures : p.dgv.failures < p.cfg.failThreshold.toNat
  ceiling : p.dgv.ceiling.level ≤ p.cfg.maxCeiling.level

/-- The shape of a transmit queue (R112, R113, R118): at most 128 descriptors, a FILLING one only as the tail and
exactly while SSP n fills it, a TRANSMITTING one only as the head, without a flush mark and exactly while LPE n sends it,
each with ceil(length ÷ 128) cells; the slot is BUSY exactly while a FLUSH runs, which holds the number of marked descriptors. -/
structure Port.QueueLaw (p : Port) : Prop where
  length : p.txq.queue.length ≤ 128
  tail : ∀ d ∈ p.txq.queue.dropLast, d.state ≠ .filling
  filling : (∃ d ∈ p.txq.queue, d.state = .filling) ↔ ∃ g, p.ssp.ingress = some g ∧ g.route = .queued
  head : ∀ d ∈ p.txq.queue.tail, d.state ≠ .transmitting
  sending : (∃ d ∈ p.txq.queue, d.state = .transmitting) ↔ ∃ check, p.lpe.tx = .busy .queued check
  unmarked : ∀ d ∈ p.txq.queue, d.state = .transmitting → d.mark = false
  size : ∀ d ∈ p.txq.queue, 64 ≤ d.length ∧ d.length ≤ 2048
  cells : ∀ d ∈ p.txq.queue, d.cells.length = (d.length + 127) / 128
  busy : p.slot.busy = true ↔ p.txq.flush.isSome = true
  marks : p.txq.queue.countP (·.mark) = (p.txq.flush.map (·.left)).getD 0
  left : ∀ f, p.txq.flush = some f → 1 ≤ f.left

/-! ## Laws of the device -/

/-- Every port keeps the link law, and while RESETN is asserted every link is DOWN (R170). -/
def State.LinkLaw (s : State) : Prop :=
  (∀ n, (s.port n).LinkLaw) ∧ (s.resetHeld = true → ∀ n, (s.port n).lpe.link = .down)

/-- Every port keeps the sleep law. -/
def State.SleepLaw (s : State) : Prop := ∀ n, (s.port n).SleepLaw

/-- Every port keeps the governor law. -/
def State.GovernorLaw (s : State) : Prop := ∀ n, (s.port n).GovernorLaw

/-- Every port keeps the queue law. -/
def State.QueueLaw (s : State) : Prop := ∀ n, (s.port n).QueueLaw

/-- The pool (R99): its data are in the canonical form, and every cell is on the free list or in exactly one
descriptor's cell list. -/
def State.PoolLaw (s : State) : Prop :=
  Memory.wf s.pool.data ∧
    (s.pool.free ++ allPorts.flatMap fun n => (s.port n).txq.queue.flatMap (·.cells)).Perm allCells

/-- The quotas (R101): no port holds more cells than its cap, the reserves fit the pool, and what is held beyond the
reserves fits what they leave. -/
def State.QuotaLaw (s : State) : Prop :=
  (∀ n, ((s.port n).txq.queue.map fun d => d.cells.length).sum ≤ (s.port n).cfg.cap.toNat) ∧
    (allPorts.map fun n =>
        ((s.port n).txq.queue.map fun d => d.cells.length).sum - (s.port n).cfg.reserve.toNat).sum
      + (allPorts.map fun n => (s.port n).cfg.reserve.toNat).sum ≤ 4096

/-- A port in a budgeted SELF phase (R71). -/
def Port.inBudget (p : Port) : Prop := ∃ w, p.psc.ps = .waking w ∧ w.budgeted = true ∧ w.phase = .self

/-- The arbiter (R68, R69, R71, R74): W is 1 to 8; the count is the number of ports in a budgeted SELF phase; a port
has an entry, one entry, exactly while it is in GRANT-WAIT, with the from-depth of its record; URGENT entries stand
ahead of NORMAL ones; entries wait only while the count is at or above W. -/
structure State.ArbiterLaw (s : State) : Prop where
  budget : 1 ≤ s.wba.w ∧ s.wba.w ≤ 8
  count : s.wba.count = allPorts.countP fun n => (s.port n).psc.ps.holdsUnit
  nodup : (s.wba.queue.map (·.port)).Nodup
  entry : ∀ e ∈ s.wba.queue, ∃ r, (s.port e.port).psc.ps = .grantWait r ∧ r.fromDepth = e.fromDepth
  waiting : ∀ n, (s.port n).psc.ps.isGrantWait = true → n ∈ s.wba.queue.map (·.port)
  order : s.wba.queue.Pairwise fun a b => b.cls = .urgent → a.cls = .urgent
  full : s.wba.queue = [] ∨ s.wba.w ≤ s.wba.count

end Sys2Proof.Machine
end

