-- ==== Sys2Proof/Certificates/Slice0/Obligations.lean ====
section
/-! DEFINITION. Obligations.lean: the statements about the device. Each says what a command, a shared act or a law of
the Guide makes of a state, with everything that stays as it is; the docstring cites the rules. In the equations
`p` is the port before the command, and a record written out in full holds every field that changes. -/

open Sys2Proof Sys2Proof.Machine

/-! ## The queue of commands, time and resets -/

/-- With a command at the front of the queue, a step is that command's effect on the state with the queue's rest
(the model's queue, log entry 6). -/
def Obligations.StepRunsFrontCommand : Prop :=
  ∀ (c : Instr) (rest : List Instr) (s : State),
    s.pending = c :: rest → step s = exec c { s with pending := rest }

/-- While no command waits, time passes (chapter 0, "Time base"; the model's choice, log entries 2 and 3): nothing
happens while RESETN is asserted; where expiries are due, one of them is queued; where none is due the time base
moves on by 1 µs, and one of the expiries it then reaches, if there are any, is queued. -/
def Obligations.IdleStepPassesTime : Prop :=
  ∀ s : State, s.pending = [] →
    (s.resetHeld = true → step s = .next s) ∧
    (s.resetHeld = false → s.due ≠ [] → ∃ c ∈ s.due, ∃ draws,
      step s = .next { s with pending := [c], draws := draws }) ∧
    (s.resetHeld = false → s.due = [] → ({ s with now := s.now + 1 } : State).due ≠ [] →
      ∃ c ∈ ({ s with now := s.now + 1 } : State).due, ∃ draws,
        step s = .next { s with now := s.now + 1, pending := [c], draws := draws }) ∧
    (s.resetHeld = false → ({ s with now := s.now + 1 } : State).due = [] →
      step s = .next { s with now := s.now + 1 })

/-- Every command is answered with a next state, in every state. It leaves the queue of waiting commands alone, takes at
most one number of the free values (log entry 24), and the time base moves at no command but a pin reset
and the expiry of a running timer, which happens at its value of the time base (chapter 0, "Time base"; log entry
2). -/
def Obligations.EveryCommandAnswers : Prop :=
  ∀ (c : Instr) (s : State), ∃ t, exec c s = .next t ∧ t.pending = s.pending ∧
    (t.draws = s.draws ∨ t.draws = s.draws + 1) ∧
    (c = .pinReset ∨ t.now = s.now ∨ ∃ x, (some x, c) ∈ s.timers ∧ t.now = max s.now x)

/-- Commands that find nothing to act on. While RESETN is asserted commands and host writes are not taken (R170), and no
other event either but the reset pin and the signal levels (the model's choice, log entry 14). A stopped timer does not
expire: the command of its expiry changes nothing (chapter 0, "Time base"; log entry 2). -/
def Obligations.NothingTakenWhileHeldOrStopped : Prop :=
  ∀ (c : Instr) (s : State),
    (s.resetHeld = true → c ≠ .pinReset → c ≠ .resetnRelease → (∀ n, c ≠ .signalPresent n) →
      (∀ n, c ≠ .signalLost n) → exec c s = .next s) ∧
    ((none, c) ∈ s.timers → exec c s = .next s)

/-- PIN_RESET gives every value its default (R170): every port as it stands first, W 2 with an empty queue, the free
list in ascending order, pool_low 256, every flag and enable clear. The signal levels stay, being what the line
presents (R1). The model's choices: the time base 0 (log entry 1), the pool's data unlisted (log entry 4), the last
read 0, with the draws and the waiting commands kept (log entries 3 and 6), the histories empty (log entry 5).
RESETN_RELEASE starts the residency timer (R173) and every enabled port whose signal is present
acquires (R1, R2). -/
def Obligations.PinResetAndRelease : Prop :=
  ∀ s : State,
    exec .pinReset s = .next {
      ports := s.ports.map fun p => { lpe := { link := .down, tx := .idle, signal := p.lpe.signal } }
      wba := { w := 2, count := 0, queue := [] }
      pool := { free := (List.range 4096).map (Fin.ofNat 4096), data := [], low := 256 }
      dev := { softResetDone := false, flags := 0, enables := 0, budgetExceeded := 0, residency := none }
      now := 0, resetHeld := true, readData := 0, draws := s.draws, pending := s.pending } ∧
    (s.resetHeld = true → exec .resetnRelease s = .next { s with
      resetHeld := false
      dev := { s.dev with residency := some (s.now + 100) }
      ports := s.ports.map fun p =>
        if p.cfg.enable = true ∧ p.lpe.signal = true then
          { p with lpe := { p.lpe with link := .acquiring, acquire := some (s.now + 1000), restart := none } }
        else { p with lpe := { p.lpe with link := .down, acquire := none, restart := none } } }) ∧
    (s.resetHeld = false → exec .resetnRelease s = .next s)

/-! ## The link -/

/-- SIGNAL_PRESENT and SIGNAL_LOST (R1, R2, R3, R5): each is an event only where the level changes; a present signal
moves an enabled port in DOWN to ACQUIRING with 1 ms to run, and nothing else; a lost one returns ACQUIRING to DOWN,
takes an UP link down with the link-loss effects where its power state watches the signal, and is otherwise only the
new level. While RESETN is asserted only the level is kept (the model's choice, log entry 14). -/
def Obligations.SignalMovesLink : Prop :=
  ∀ (n : PortId) (s : State), let p := s.port n
    let gone := { p with lpe := { p.lpe with signal := false } }
    let watched := p.psc.ps = .active ∨ p.psc.ps = .dim ∨ p.psc.ps = .offerDeep ∨
      ∃ w, p.psc.ps = .waking w ∧ w.selfDepth = .dim ∧ w.waitDepth = .dim
    (p.lpe.signal = true → exec (.signalPresent n) s = .next s) ∧
    (p.lpe.signal = false → s.resetHeld = false → p.lpe.link = .down → p.cfg.enable = true →
      exec (.signalPresent n) s = .next (s.setPort n { p with
        lpe := { p.lpe with signal := true, link := .acquiring, acquire := some (s.now + 1000), restart := none } })) ∧
    (p.lpe.signal = false → s.resetHeld = true ∨ p.lpe.link ≠ .down ∨ p.cfg.enable = false →
      exec (.signalPresent n) s = .next (s.setPort n { p with lpe := { p.lpe with signal := true } })) ∧
    (p.lpe.signal = false → exec (.signalLost n) s = .next s) ∧
    (p.lpe.signal = true → s.resetHeld = false → p.lpe.link = .acquiring →
      exec (.signalLost n) s = .next (s.setPort n { p with
        lpe := { p.lpe with signal := false, link := .down, acquire := none, restart := none } })) ∧
    (p.lpe.signal = true → s.resetHeld = false → p.lpe.link = .up → watched →
      exec (.signalLost n) s = .next ((s.setPort n { p with
        lpe := { p.lpe with signal := false, link := .down, acquire := none, restart := none } }).loseLink n true)) ∧
    (p.lpe.signal = true → s.resetHeld = true ∨ p.lpe.link = .down ∨ p.lpe.link = .restart ∨
        (p.lpe.link = .up ∧ ¬ watched) →
      exec (.signalLost n) s = .next (s.setPort n gone))

/-- ACQUIRE_TIMER_EXPIRY takes ACQUIRING to UP (R3, R4): LINK_UP, the fill record NONE, PS ACTIVE with RS AWAKE
(R19), a new advert exchange (R84, R85), the restore timer started (R146); then the transmitter selection and the
test of the quiet conditions. RESTART_TIMER_EXPIRY takes RESTART to DOWN (R7), and on to ACQUIRING where an enabled
port finds the signal present (R2). -/
def Obligations.LinkTimersMoveLink : Prop :=
  ∀ (n : PortId) (s : State) (t : Nat), s.resetHeld = false → let p := s.port n
    let now := max s.now t
    (p.lpe.acquire = some t → p.lpe.link = .acquiring →
      exec (.acquireTimerExpiry n) s = .next (((s.reach t).setPort n { p with
        lpe := { p.lpe with link := .up, acquire := none, restart := none, lastFill := none }
        psc := { p.psc with ps := .active, rs := .awake, force := false }
        adu := { p.adu with
          seq := p.adu.seq + 1, state := .pending, retry := 0, advertPending := true
          image := some {
            seq := p.adu.seq + 1, capability := BitVec.ofNat 2 p.cfg.maxCeiling.level
            tDim := p.adu.laLive.tDim, tDeep := p.adu.laLive.tDeep, tDormant := p.adu.laLive.tDormant
            refreshMs := p.cfg.refreshInterval.setWidth 8 } }
        dgv := { p.dgv with restore := some (now + p.cfg.restorePeriod.toNat * 1000000) }
        flags := p.flags ||| BitVec.twoPow 11 0 }).settle n)) ∧
    (p.lpe.restart = some t → p.lpe.link = .restart → p.cfg.enable = true → p.lpe.signal = true →
      exec (.restartTimerExpiry n) s = .next ((s.reach t).setPort n { p with
        lpe := { p.lpe with link := .acquiring, acquire := some (now + 1000), restart := none } })) ∧
    (p.lpe.restart = some t → p.lpe.link = .restart → p.cfg.enable = false ∨ p.lpe.signal = false →
      exec (.restartTimerExpiry n) s = .next ((s.reach t).setPort n { p with
        lpe := { p.lpe with link := .down, acquire := none, restart := none } }))

/-- The one event at which a link leaves UP (R6), in every block: LINK_DOWN, and the frame in flight truncated (R6);
the frame being received ends with the error mark, or is discarded where it is a management frame (R13, R16; log entry
7); PSC n is as after pin reset (R45, R66); ADU n keeps only LA and seq (R96); the queue is emptied, each descriptor
and a bypass frame not yet counted going to DISC_LINKDOWN with DISCARD, the cells freed in queue order, the frame in
progress ignored, and a FLUSH reported DONE (R117, R119, R120, R165); the restore timer stops (R148); the entry leaves
the arbiter and a held unit is released, followed by grants unless the loss belongs to a SOFT_RESET (R80, R81). `s`
already has the new link state. -/
def Obligations.LinkLossEffects : Prop :=
  ∀ (n : PortId) (grants : Bool) (s : State), let p := s.port n
    ∃ lost : Port,
      lost.lpe = { p.lpe with tx := .idle } ∧ lost.psc = {} ∧ lost.txq = {} ∧
      lost.adu = { p.adu with state := .unsent, retry := 0, echoTimer := none, image := none, advertPending := false,
                              echoPending := none, pa := {} } ∧
      lost.ssp = { ingress := p.ssp.ingress.map fun g => { g with route := .ignore }, rx := none } ∧
      lost.dgv = { p.dgv with restore := none } ∧
      lost.staging = p.staging ∧ lost.cfg = p.cfg ∧ lost.enables = p.enables ∧
      (p.txq.flush = none → lost.slot = p.slot) ∧
      (p.txq.flush ≠ none → lost.slot = { busy := false, command := .flush, result := .done, reason := .none }) ∧
      lost.flags = p.flags ||| BitVec.twoPow 11 1
        ||| (if p.txq.queue ≠ [] ∨ uncounted p.lpe.tx = true then BitVec.twoPow 11 8 else 0)
        ||| (if p.txq.flush ≠ none then BitVec.twoPow 11 9 else 0) ∧
      lost.counters = { p.counters with
        discLinkdown := satAdd p.counters.discLinkdown (p.txq.queue.length + (uncounted p.lpe.tx).toNat)
        rxErr := satAdd p.counters.rxErr (delivering p.ssp.rx).toNat
        mgmtDiscard := satAdd p.counters.mgmtDiscard (if p.ssp.rx = some .management then 1 else 0) } ∧
      lost.lineOut = p.lineOut ++ (if p.lpe.tx = .idle then [] else [.truncated]) ∧
      lost.egressOut = p.egressOut ++ cutWords p.ssp.rx ∧
      let u : State := { s.setPort n lost with
        pool := { s.pool with free := s.pool.free ++ p.txq.queue.flatMap (·.cells) }
        wba := { s.wba with queue := s.wba.queue.filter fun e => e.port != n } }
      let released : State := { u with wba := { u.wba with count := s.wba.count - 1 } }
      (¬ p.inBudget → s.loseLink n grants = u) ∧
      (p.inBudget → grants = false → s.loseLink n grants = released) ∧
      (p.inBudget → grants = true → Grants released (s.loseLink n grants))

/-! ## The acts that several commands share -/

/-- A transmitter selection (R125, R128) is made only with PS ACTIVE and the transmitter IDLE, and hands over the
pending ECHO (R92), else the pending ADVERT with its image (R87), else a head that is COMPLETE, unmarked and past
any release time (R128, R114), which becomes TRANSMITTING, counted in LATE where its start comes after that time
(R131), with a new aging candidate (R133), whose deadline is kept and acted on by an expiry of its own where it is
past (the model's choice, log entry 27). The bytes sent are those of R189, and the check sequence is over them, its
order of the bits of a byte being the model's choice (log entry 11). -/
def Obligations.SelectionOrder : Prop :=
  ∀ (n : PortId) (s : State), let p := s.port n
    let start (kind : TxKind) (bytes : List Byte) : Port := { p with
      lpe := { p.lpe with tx := .busy kind (crcBytes 0xFFFF bytes) }
      lineOut := p.lineOut ++ [.frameStart bytes] }
    let free := p.psc.ps = .active ∧ p.lpe.tx = .idle
    (¬ free → s.select n = s) ∧
    (∀ seq, free → p.adu.echoPending = some seq → s.select n = s.setPort n
      { start .echo [0x03, seq ++ 0#4] with adu := { p.adu with echoPending := none } }) ∧
    (∀ a, free → p.adu.echoPending = none → p.adu.advertPending = true → p.adu.image = some a →
      s.select n = s.setPort n
        { start (.advert a.seq) ([0x02, a.seq ++ 0#2 ++ a.capability] ++ beBytes a.tDim ++ beBytes a.tDeep
              ++ beBytes a.tDormant ++ [a.refreshMs]) with
          adu := { p.adu with advertPending := false } }) ∧
    (∀ d rest, free → p.adu.echoPending = none → p.adu.advertPending = false → p.txq.queue = d :: rest →
      let ready := d.state = .complete ∧ d.mark = false ∧ ∀ t, d.release = some t → t ≤ s.now
      (¬ ready → s.select n = s) ∧
      (ready → s.select n = s.setPort n
        { start .queued ([0x01] ++ beBytes (BitVec.ofNat 16 d.length) ++ [d.tag]
              ++ (List.range d.length).map fun i => match d.cells[i / 128]? with
                | some c => Memory.read s.pool.data (c.val * 128 + i % 128)
                | none => 0) with
          counters := { p.counters with
            late := satAdd p.counters.late (match d.release with | some t => if t < s.now then 1 else 0 | none => 0) }
          txq := { p.txq with
            queue := { d with state := .transmitting } :: rest
            releaseWatch := none
            agingDeadline := deadlineFor p.cfg rest } })) ∧
    (free → p.adu.echoPending = none → p.adu.advertPending = false → p.txq.queue = [] → s.select n = s)

/-- The idle timer follows the quiet conditions (R23): it starts with the live dim_idle where they have become true, and
stops where one of them fails. What closes an event at a port is the selection (R126), and then the idle timer. -/
def Obligations.IdleTimerFollowsQuiet : Prop :=
  ∀ (n : PortId) (s : State) (now : Nat) (p : Port),
    let quiet := p.psc.ps = .active ∧ p.lpe.tx = .idle ∧ p.txq.queue = [] ∧ p.adu.advertPending = false
      ∧ p.adu.echoPending = none
    (quiet → ∀ x, p.psc.idleTimer = some x → p.idleUpdate now = p) ∧
    (quiet → p.psc.idleTimer = none → p.idleUpdate now =
      { p with psc := { p.psc with idleTimer := some (now + p.cfg.dimIdle.toNat) } }) ∧
    (¬ quiet → p.idleUpdate now = { p with psc := { p.psc with idleTimer := none } }) ∧
    s.settle n = (s.select n).setPort n (((s.select n).port n).idleUpdate s.now)

/-- The eligibility test (R21), with the partner time of each depth (R21, R52). -/
def Obligations.EligibilityTest : Prop :=
  ∀ (p : Port) (d : SleepDepth),
    let self := match d with | .dim => 2 | .deep => 40 | .dormant => 1500
    let partner := match d with
      | .dim => if p.adu.pa.valid = true then p.adu.pa.tDim.toNat else 50
      | .deep => p.adu.pa.tDeep.toNat
      | .dormant => p.adu.pa.tDormant.toNat
    p.partnerTime d = partner ∧
    (p.eligible d = true ↔
      p.lpe.link = .up ∧ d.level ≤ p.dgv.ceiling.level ∧
      (d ≠ .dim → p.adu.state = .echoed ∧ p.adu.pa.valid = true ∧ d.level ≤ p.adu.pa.capability.toNat) ∧
      (p.cfg.latencyMode = .fixed →
        self + partner + p.cfg.wakeGuard.toNat ≤ p.cfg.fixedLatency.toNat))

/-- A wake cause (R40) that is present takes a sleeping port as R41 states: from DIM and OFFER-DEEP to an unbudgeted
LOCAL wake of self-depth DIM and wait-depth DIM or DEEP (R48, R65), from DEEP, OFFER-DORMANT and DORMANT to
GRANT-WAIT, with an entry at the tail of its class, URGENT where the force flag or an urgency threshold says so (R72),
and the grants that follow (R74). In any other PS, and without a cause, nothing happens. -/
def Obligations.WakeCauseTakesPort : Prop :=
  ∀ (n : PortId) (s : State), let p := s.port n
    let cells := (p.txq.queue.map fun d => d.cells.length).sum
    let cause := p.txq.queue ≠ [] ∨ p.adu.advertPending = true ∨ p.adu.echoPending ≠ none ∨ p.psc.force = true
    let urgent := p.psc.force = true ∨ (p.cfg.urgencyCells ≠ 0 ∧ p.cfg.urgencyCells.toNat ≤ cells) ∨
      (p.cfg.urgencyAge ≠ 0 ∧ ∃ d rest, p.txq.queue = d :: rest ∧ p.cfg.urgencyAge.toNat ≤ s.now - d.admission)
    let alert := match p.psc.revival with | some r => r.cause == .alr | none => false
    let woken (wait : SleepDepth) : Port := { p with
      psc := inWake p.psc (newWake .localEnd .dim wait false alert s.now 2)
      counters := { p.counters with wakesLocal := satAdd p.counters.wakesLocal 1 } }
    let waiting (r : GrantWait) (cls : ReqClass) : State :=
      let e : WbaEntry := { port := n, cls := cls, fromDepth := r.fromDepth, entryTime := s.now }
      { s.setPort n { p with psc := { p.psc with ps := .grantWait r, dormantTimer := none, offerTimer := none } } with
        wba := { s.wba with queue := match cls with
          | .normal => s.wba.queue ++ [e]
          | .urgent => s.wba.queue.filter (·.cls == .urgent) ++ [e] ++ s.wba.queue.filter (·.cls == .normal) } }
    let waits (r : GrantWait) := (urgent → Grants (waiting r .urgent) (s.wakeCheck n)) ∧
      (¬ urgent → Grants (waiting r .normal) (s.wakeCheck n))
    (¬ cause → s.wakeCheck n = s) ∧
    (cause → p.psc.ps = .dim → s.wakeCheck n = s.setPort n (woken .dim)) ∧
    (cause → p.psc.ps = .offerDeep → s.wakeCheck n = s.setPort n (woken .deep)) ∧
    (cause → p.psc.ps = .deep → waits { fromDepth := .deep, waitDepth := .deep }) ∧
    (cause → p.psc.ps = .offerDormant → waits { fromDepth := .deep, waitDepth := .dormant }) ∧
    (cause → p.psc.ps = .dormant → waits { fromDepth := .dormant, waitDepth := .dormant }) ∧
    (p.psc.ps = .offline ∨ p.psc.ps = .active ∨ (∃ r, p.psc.ps = .grantWait r) ∨ (∃ w, p.psc.ps = .waking w) →
      s.wakeCheck n = s)

/-- A port in GRANT-WAIT whose wake cause has vanished withdraws (R43, R78): its entry leaves the queue, the order of
the others and the count stay, no grant is tested; PS returns to DEEP with the dormant timer started afresh (R31), or
to DORMANT, with the timers stopped and the partner-offer-pending record cleared (R39). -/
def Obligations.WithdrawalReturnsToFromDepth : Prop :=
  ∀ (n : PortId) (s : State), let p := s.port n
    let cause := p.txq.queue ≠ [] ∨ p.adu.advertPending = true ∨ p.adu.echoPending ≠ none ∨ p.psc.force = true
    let back (c : Psc) : State := { s.setPort n { p with psc := c } with
      wba := { s.wba with queue := s.wba.queue.filter fun e => e.port != n } }
    (∀ r, p.psc.ps = .grantWait r → cause → s.withdrawCheck n = s) ∧
    (∀ r, p.psc.ps = .grantWait r → ¬ cause → r.fromDepth = .deep → s.withdrawCheck n =
      back { p.psc with ps := .deep, dormantTimer := some (s.now + p.cfg.dormantIdle.toNat * 1000) }) ∧
    (∀ r, p.psc.ps = .grantWait r → ¬ cause → r.fromDepth = .dormant → s.withdrawCheck n =
      back { p.psc with
        ps := .dormant, offer := none, idleTimer := none, deepTimer := none, dormantTimer := none
        offerTimer := none, refreshSend := none, refreshWatch := none }) ∧
    (p.psc.ps.isGrantWait = false → s.withdrawCheck n = s)

/-- GRANT: the arbiter grants heads of the queue while the count is below W (R74, R75), and then stands with its
condition false. A refresh watch that has reached its end at the grant is kept, so that its loss is taken (R75; that
it is kept in the record's timers is the model's choice, log entry 28). That GRANT as a command of its own makes
this test is the model's choice (log entry 17). -/
def Obligations.GrantsWhileCountBelowW : Prop :=
  ∀ s : State, s.resetHeld = false → ∃ t, exec .grant s = .next t ∧ Grants s t ∧
    (t.wba.w ≤ t.wba.count ∨ t.wba.queue = [])

/-- The promotion test (R73): a NORMAL entry of a port with an urgency condition of R72 moves to the tail of the URGENT
part with its entry time unchanged, and the grant condition is tested; otherwise nothing changes. -/
def Obligations.PromotionToUrgentTail : Prop :=
  ∀ (n : PortId) (s : State), let p := s.port n
    let cells := (p.txq.queue.map fun d => d.cells.length).sum
    let urgent := p.psc.force = true ∨ (p.cfg.urgencyCells ≠ 0 ∧ p.cfg.urgencyCells.toNat ≤ cells) ∨
      (p.cfg.urgencyAge ≠ 0 ∧ ∃ d rest, p.txq.queue = d :: rest ∧ p.cfg.urgencyAge.toNat ≤ s.now - d.admission)
    (¬ urgent → s.promoteCheck n = s) ∧
    ((∀ e ∈ s.wba.queue, e.port = n → e.cls = .urgent) → s.promoteCheck n = s) ∧
    (∀ before e after, urgent → s.wba.queue = before ++ e :: after → e.port = n → e.cls = .normal →
      (∀ x ∈ before ++ after, x.port ≠ n) →
      let others := before ++ after
      let queue := others.filter (·.cls == .urgent) ++ [{ e with cls := .urgent }]
        ++ others.filter (·.cls == .normal)
      Grants { s with wba := { s.wba with queue := queue } } (s.promoteCheck n))

/-- A failure report at DGV n (R143, R144): the failure counter rises by one; with the link UP the restore timer is
restarted with the live restore_period; at the threshold the counter returns to 0 and the ceiling falls one level,
with CEILING_DOWN unless it was NONE. -/
def Obligations.FailureReportDropsCeiling : Prop :=
  ∀ (now : Nat) (p : Port), p.dgv.failures < p.cfg.failThreshold.toNat →
    let restore := if p.lpe.link = .up then some (now + p.cfg.restorePeriod.toNat * 1000000) else p.dgv.restore
    (p.dgv.failures + 1 < p.cfg.failThreshold.toNat → p.failure now =
      { p with dgv := { p.dgv with failures := p.dgv.failures + 1, restore := restore } }) ∧
    (p.dgv.failures + 1 = p.cfg.failThreshold.toNat → p.dgv.ceiling = .none → p.failure now =
      { p with dgv := { ceiling := .none, failures := 0, restore := restore } }) ∧
    (p.dgv.failures + 1 = p.cfg.failThreshold.toNat → ∀ d : Depth, p.dgv.ceiling.level = d.level + 1 →
      p.failure now = { p with
        dgv := { ceiling := d, failures := 0, restore := restore }
        flags := p.flags ||| BitVec.twoPow 11 5 })

/-- The removal of the descriptor at place `i` of TXQ n before its completion (R117): it leaves the queue, the others
keep their order; its path's counter, DISC_ABORT, DISC_AGED or DISC_FLUSH, counts one (R172), and DISCARD is set; a
FILLING one makes the frame in progress IGNORE; a marked one counts towards the end of the FLUSH, which at its last
is reported DONE (R118, R165); a new aging candidate is taken where it was the candidate (R133), with its deadline
kept even where it is past (the model's choice, log entry 27: an expiry of its own follows); its cells join the tail
of the free list in their order (R100). A removed head sets the watches of the next (R130, R137). -/
def Obligations.RemovalEffects : Prop :=
  ∀ (n : PortId) (i : Nat) (c : Counter) (s : State) (d : Descriptor), let p := s.port n
    p.txq.queue[i]? = some d →
    let rest := p.txq.queue.eraseIdx i
    let ends := d.mark = true ∧ ∃ f, p.txq.flush = some f ∧ f.left ≤ 1
    ∃ q : Port,
      q.lpe = p.lpe ∧ q.psc = p.psc ∧ q.adu = p.adu ∧ q.dgv = p.dgv ∧ q.staging = p.staging ∧ q.cfg = p.cfg ∧
      q.enables = p.enables ∧ q.lineOut = p.lineOut ∧ q.egressOut = p.egressOut ∧
      (∀ k, q.counters.get k = if k = c then satAdd (p.counters.get k) 1 else p.counters.get k) ∧
      (c = .discAbort → q.counters = { p.counters with discAbort := satAdd p.counters.discAbort 1 }) ∧
      (c = .discAged → q.counters = { p.counters with discAged := satAdd p.counters.discAged 1 }) ∧
      (c = .discFlush → q.counters = { p.counters with discFlush := satAdd p.counters.discFlush 1 }) ∧
      q.ssp.rx = p.ssp.rx ∧
      (d.state ≠ .filling → q.ssp.ingress = p.ssp.ingress) ∧
      (d.state = .filling → q.ssp.ingress = p.ssp.ingress.map fun g => { g with route := .ignore }) ∧
      q.txq.queue = rest ∧ q.txq.releaseWatch = p.txq.releaseWatch ∧ q.txq.urgencyWatch = p.txq.urgencyWatch ∧
      q.txq.agingDeadline =
        (if p.txq.queue.findIdx? (fun x => x.state != .transmitting) = some i then deadlineFor p.cfg rest
         else p.txq.agingDeadline) ∧
      (ends → q.txq.flush = none ∧
        q.slot = { busy := false, command := .flush, result := .done, reason := .none } ∧
        q.flags = p.flags ||| BitVec.twoPow 11 8 ||| BitVec.twoPow 11 9) ∧
      (¬ ends → q.slot = p.slot ∧ q.flags = p.flags ||| BitVec.twoPow 11 8 ∧
        q.txq.flush = if d.mark = true then p.txq.flush.map fun f => { f with left := f.left - 1 } else p.txq.flush) ∧
      let u : State := { s.setPort n q with pool := { s.pool with free := s.pool.free ++ d.cells } }
      s.removeAt n i c = if i = 0 then u.newHead n else u

/-- The watches of a new head (R130, R137): a release watch where its release time lies ahead; an urgency watch at its
admission time plus a nonzero urgency_age, or where that is already reached no watch and the report to the arbiter at
this event. Without a head both are absent. -/
def Obligations.NewHeadSetsWatches : Prop :=
  ∀ (n : PortId) (s : State), let p := s.port n
    let watch (release urgency : Option Nat) : State :=
      s.setPort n { p with txq := { p.txq with releaseWatch := release, urgencyWatch := urgency } }
    (p.txq.queue = [] → s.newHead n = watch none none) ∧
    (∀ d rest, p.txq.queue = d :: rest →
      let release := match d.release with | some t => if s.now < t then some t else none | none => none
      let age := d.admission + p.cfg.urgencyAge.toNat
      (p.cfg.urgencyAge = 0 → s.newHead n = watch release none) ∧
      (p.cfg.urgencyAge ≠ 0 → s.now < age → s.newHead n = watch release (some age)) ∧
      (p.cfg.urgencyAge ≠ 0 → age ≤ s.now → s.newHead n = (watch release none).promoteCheck n))

/-! ## Control words on the line -/

/-- RECEIVE_IDL and RECEIVE_DIM (R14, R15): a fill word is reported only where it differs from the record. In AWAKE a
reported IDL clears a partner-offer-pending record (R30), and a reported DIM makes RS LISTEN, which cuts a frame
being delivered (R16, R20). In LISTEN an IDL is unannounced activity (R63), and a DIM is only recorded. With the
link not UP, in REVIVING and in JOINT neither is observed. A management frame that DIM cuts is dropped without a
count (the model's choice, log entry 7). -/
def Obligations.FillWordReports : Prop :=
  ∀ (n : PortId) (s : State), s.resetHeld = false → let p := s.port n
    (p.lpe.link ≠ .up ∨ p.psc.rs = .reviving ∨ p.psc.rs = .joint →
      exec (.receiveIdl n) s = .next s ∧ exec (.receiveDim n) s = .next s) ∧
    (p.lpe.link = .up → p.psc.rs = .awake → p.lpe.lastFill = some .idl → exec (.receiveIdl n) s = .next s) ∧
    (p.lpe.link = .up → p.psc.rs = .awake → p.lpe.lastFill ≠ some .idl →
      exec (.receiveIdl n) s = .next (s.setPort n { p with
        lpe := { p.lpe with lastFill := some .idl }, psc := { p.psc with offer := none } })) ∧
    (p.lpe.link = .up → p.psc.rs = .listen → exec (.receiveIdl n) s = .next (s.setPort n (roused s.now p))) ∧
    (p.lpe.link = .up → p.psc.rs = .awake → p.lpe.lastFill = some .dim → exec (.receiveDim n) s = .next s) ∧
    (p.lpe.link = .up → p.psc.rs = .awake → p.lpe.lastFill ≠ some .dim →
      exec (.receiveDim n) s = .next (s.setPort n { p with
        lpe := { p.lpe with lastFill := some .dim }
        psc := { p.psc with rs := .listen }
        ssp := { p.ssp with rx := none }
        counters := { p.counters with rxErr := satAdd p.counters.rxErr (delivering p.ssp.rx).toNat }
        egressOut := p.egressOut ++ cutWords p.ssp.rx })) ∧
    (p.lpe.link = .up → p.psc.rs = .listen → exec (.receiveDim n) s = .next (s.setPort n { p with
      lpe := { p.lpe with lastFill := some .dim } }))

/-- RECEIVE_OFD (R14, R26, R27, R29, R59): observed in AWAKE and LISTEN. In ACTIVE, and in DIM with DEEP not eligible,
it is recorded until the offer timeout; in DIM with DEEP eligible it is answered with OFD and PS enters DEEP, as it
does from OFFER-DEEP without an answer; a wake cause then acts (R41). In any other power state it is ignored. A
management frame in reception at an entry into DEEP is dropped without a count (the model's choice, log entry 7). -/
def Obligations.OfdMeetsPowerState : Prop :=
  ∀ (n : PortId) (s : State), s.resetHeld = false → let p := s.port n
    let observed := p.lpe.link = .up ∧ (p.psc.rs = .awake ∨ p.psc.rs = .listen)
    let record := s.setPort n { p with
      psc := { p.psc with offer := some { depth := .deep, expiry := s.now + p.cfg.offerTimeout.toNat } } }
    (¬ observed → exec (.receiveOfd n) s = .next s) ∧
    (observed → p.psc.ps = .active → exec (.receiveOfd n) s = .next record) ∧
    (observed → p.psc.ps = .dim → p.eligible .deep = false → exec (.receiveOfd n) s = .next record) ∧
    (observed → p.psc.ps = .dim → p.eligible .deep = true →
      exec (.receiveOfd n) s = .next ((s.setPort n (asleepDeep s.now [.word .ofd] p)).wakeCheck n)) ∧
    (observed → p.psc.ps = .offerDeep →
      exec (.receiveOfd n) s = .next ((s.setPort n (asleepDeep s.now [] p)).wakeCheck n)) ∧
    (observed → p.psc.ps ≠ .active → p.psc.ps ≠ .dim → p.psc.ps ≠ .offerDeep → exec (.receiveOfd n) s = .next s)

/-- RECEIVE_OFM (R14, R29, R36, R37, R42, R59): not observed in AWAKE and REVIVING, unannounced activity in LISTEN.
In JOINT: in DEEP with DORMANT eligible it is answered with OFM and PS enters DORMANT, as it does from OFFER-DORMANT
without an answer (R39), and a wake cause then acts (R41); in DEEP with DORMANT not eligible, and in GRANT-WAIT from
DEEP, it is recorded; in any other power state it is ignored. -/
def Obligations.OfmMeetsPowerState : Prop :=
  ∀ (n : PortId) (s : State), s.resetHeld = false → let p := s.port n
    let observed := p.lpe.link = .up ∧ p.psc.rs = .joint
    let record := s.setPort n { p with
      psc := { p.psc with offer := some { depth := .dormant, expiry := s.now + p.cfg.offerTimeout.toNat } } }
    (p.lpe.link ≠ .up ∨ p.psc.rs = .awake ∨ p.psc.rs = .reviving → exec (.receiveOfm n) s = .next s) ∧
    (p.lpe.link = .up → p.psc.rs = .listen → exec (.receiveOfm n) s = .next (s.setPort n (roused s.now p))) ∧
    (observed → p.psc.ps = .deep → p.eligible .dormant = false → exec (.receiveOfm n) s = .next record) ∧
    (observed → p.psc.ps = .deep → p.eligible .dormant = true →
      exec (.receiveOfm n) s = .next ((s.setPort n (asleepDormant [.word .ofm] p)).wakeCheck n)) ∧
    (observed → p.psc.ps = .offerDormant →
      exec (.receiveOfm n) s = .next ((s.setPort n (asleepDormant [] p)).wakeCheck n)) ∧
    (observed → ∀ r, p.psc.ps = .grantWait r → r.fromDepth = .deep → exec (.receiveOfm n) s = .next record) ∧
    (observed → p.psc.ps ≠ .deep → p.psc.ps ≠ .offerDormant →
      (∀ r, p.psc.ps = .grantWait r → r.fromDepth = .dormant) → exec (.receiveOfm n) s = .next s)

/-- The refresh of DEEP. RECEIVE_RFR restarts the watch for 3 × PA.refresh_ms in JOINT in DEEP, OFFER-DORMANT and
GRANT-WAIT from DEEP, where the refresh timers run, and is unannounced activity in LISTEN (R14, R33).
REFRESH_SEND_EXPIRY sends RFR and restarts its timer (R32). REFRESH_WATCH_EXPIRY counts REFRESH_LOSS, reports a
failure (R143), and an UP link restarts with the link-loss effects (R34, R7). -/
def Obligations.RefreshKeepsDeep : Prop :=
  ∀ (n : PortId) (s : State) (t : Nat), s.resetHeld = false → let p := s.port n
    let now := max s.now t
    let watching := p.psc.ps = .deep ∨ p.psc.ps = .offerDormant ∨ ∃ r, p.psc.ps = .grantWait r ∧ r.fromDepth = .deep
    let lost := Port.failure now { p with
      psc := { p.psc with refreshWatch := none }
      counters := { p.counters with refreshLoss := satAdd p.counters.refreshLoss 1 } }
    (p.lpe.link ≠ .up ∨ p.psc.rs = .awake ∨ p.psc.rs = .reviving ∨
        (p.psc.rs = .joint ∧ ¬ watching) → exec (.receiveRfr n) s = .next s) ∧
    (p.lpe.link = .up → p.psc.rs = .listen → exec (.receiveRfr n) s = .next (s.setPort n (roused s.now p))) ∧
    (p.lpe.link = .up → p.psc.rs = .joint → watching →
      exec (.receiveRfr n) s = .next (s.setPort n { p with
        psc := { p.psc with refreshWatch := some (s.now + 3 * p.adu.pa.refreshMs.toNat * 1000) } })) ∧
    (p.psc.refreshSend = some t → watching →
      exec (.refreshSendExpiry n) s = .next ((s.reach t).setPort n { p with
        psc := { p.psc with refreshSend := some (now + p.cfg.refreshInterval.toNat * 1000) }
        lineOut := p.lineOut ++ said p.lpe.link .rfr })) ∧
    (p.psc.refreshWatch = some t → p.lpe.link = .up →
      exec (.refreshWatchExpiry n) s = .next (((s.reach t).setPort n { lost with
        lpe := { lost.lpe with link := .restart, acquire := none, restart := some (now + 2000) } }).loseLink n true)) ∧
    (p.psc.refreshWatch = some t → p.lpe.link ≠ .up →
      exec (.refreshWatchExpiry n) s = .next ((s.reach t).setPort n lost))

/-- RECEIVE_ALR in ACTIVE, DIM and OFFER-DEEP, and in a wake (R57): a partner-offer-pending record is cleared (R30). In
AWAKE it is answered with RDY at once, in LISTEN a revival of cause ALR starts (R63). In the SELF phase of a LOCAL wake
alert-seen is set; in the PARTNER phase RDY is sent and the wake ends (R60); in a PARTNER wake nothing more happens.
With the link not UP, and in REVIVING, it is not observed (R14). -/
def Obligations.AlrAnswered : Prop :=
  ∀ (n : PortId) (s : State), s.resetHeld = false → let p := s.port n
    let observed := p.lpe.link = .up ∧ p.psc.rs ≠ .reviving
    let fed := p.psc.ps = .active ∨ p.psc.ps = .dim ∨ p.psc.ps = .offerDeep
    (¬ observed → exec (.receiveAlr n) s = .next s) ∧
    (observed → fed → p.psc.rs = .awake → exec (.receiveAlr n) s = .next (s.setPort n { p with
      psc := { p.psc with offer := none }, lineOut := p.lineOut ++ [.word .rdy] })) ∧
    (observed → fed → p.psc.rs = .listen → exec (.receiveAlr n) s = .next (s.setPort n { p with
      lpe := { p.lpe with lastFill := none }
      psc := { p.psc with
        rs := .reviving, offer := none, revival := some { cause := .alr, expiry := s.now + 2 } } })) ∧
    (∀ w, observed → p.psc.ps = .waking w → w.origin = .partner →
      exec (.receiveAlr n) s = .next (s.setPort n { p with psc := { p.psc with offer := none } })) ∧
    (∀ w, observed → p.psc.ps = .waking w → w.origin = .localEnd → w.phase = .self →
      exec (.receiveAlr n) s = .next (s.setPort n { p with
        psc := { p.psc with offer := none, ps := .waking { w with alertSeen := true } } })) ∧
    (∀ w, observed → p.psc.ps = .waking w → w.origin = .localEnd → w.phase = .partner →
      exec (.receiveAlr n) s = .next ((s.setPort n { p with
        psc := wakeEnded { p.psc with offer := none }, lineOut := p.lineOut ++ [.word .rdy] }).settle n))

/-- RECEIVE_ALR in a joint depth or in GRANT-WAIT (R49, R57, R76): a PARTNER wake of self- and wait-depth DEEP from DEEP
and OFFER-DORMANT, DORMANT from DORMANT, and the from-depth from GRANT-WAIT, whose entry leaves the queue; the budget
count rises by one, with BUDGET_EXCEEDED set and counted where it stood at or above W; the grants of a test of the
condition follow. -/
def Obligations.AlrStartsPartnerWake : Prop :=
  ∀ (n : PortId) (s : State) (depth : JointDepth), s.resetHeld = false → let p := s.port n
    p.lpe.link = .up → p.psc.rs ≠ .reviving →
    (p.psc.ps = .deep ∧ depth = .deep) ∨ (p.psc.ps = .offerDormant ∧ depth = .deep) ∨
      (p.psc.ps = .dormant ∧ depth = .dormant) ∨ (∃ r, p.psc.ps = .grantWait r ∧ depth = r.fromDepth) →
    let exceeded := s.wba.w ≤ s.wba.count
    let woken : Port := { p with
      psc := inWake { p.psc with offer := none } (newWake .partner depth.toSleep depth.toSleep true false s.now
        (if depth = .deep then 40 else 1500))
      counters := { p.counters with wakesPartner := satAdd p.counters.wakesPartner 1 } }
    ∃ t, exec (.receiveAlr n) s = .next t ∧
      Grants { s.setPort n woken with
        wba := { s.wba with count := s.wba.count + 1, queue := s.wba.queue.filter fun e => e.port != n }
        dev := if exceeded then
            { s.dev with
              flags := s.dev.flags ||| BitVec.twoPow 3 1, budgetExceeded := satAdd s.dev.budgetExceeded 1 }
          else s.dev } t

/-! ## Wakes -/

/-- SELF_TIMER_EXPIRY (R51, R52, R53): a budgeted phase releases its unit first, with the grants of the test (R79). A
PARTNER wake, and a LOCAL one that has seen an ALR, sends RDY and ends in ACTIVE (R60). Otherwise ALR is sent and phase
PARTNER begins, with the wait timer at the partner time of the wait-depth and the deadline wake_guard later; after a
self-depth of DIM the receiver stands in AWAKE, a revival ended without its RDY (R64, R65). -/
def Obligations.SelfPhaseEnds : Prop :=
  ∀ (n : PortId) (s : State) (w : WakeRecord) (t : Nat), s.resetHeld = false → let p := s.port n
    p.psc.ps = .waking w → w.selfTimer = some t →
    let now := max s.now t
    let wait := p.partnerTime w.waitDepth
    let deadline := wait + p.cfg.wakeGuard.toNat
    let calling : PS := .waking { w with
      phase := .partner, selfTimer := none
      waitDuration := some wait, waitTimer := some (now + wait)
      deadlineDuration := some deadline, deadlineTimer := some (now + deadline) }
    ∃ u, (p.inBudget →
        Grants { s.reach t with wba := { s.wba with count := s.wba.count - 1 } } u) ∧
      (¬ p.inBudget → u = s.reach t) ∧
      (w.origin = .partner ∨ w.alertSeen = true → exec (.selfTimerExpiry n) s = .next ((u.setPort n { p with
        psc := wakeEnded p.psc, lineOut := p.lineOut ++ said p.lpe.link .rdy }).settle n)) ∧
      (w.origin = .localEnd → w.alertSeen = false → w.selfDepth ≠ .dim →
        exec (.selfTimerExpiry n) s = .next (u.setPort n { p with
          psc := { p.psc with ps := calling }, lineOut := p.lineOut ++ said p.lpe.link .alr })) ∧
      (w.origin = .localEnd → w.alertSeen = false → w.selfDepth = .dim → p.psc.rs ≠ .joint →
        exec (.selfTimerExpiry n) s = .next (u.setPort n { p with
          psc := { p.psc with ps := calling, rs := .awake, revival := none }
          lineOut := p.lineOut ++ said p.lpe.link .alr }))

/-- RECEIVE_RDY (R14, R54, R55): reported in the PARTNER phase of a wake in AWAKE, LISTEN and JOINT, where it sets
ready-seen, and ends the wake (R60) if the wait timer has expired; with ready-seen set already, in any other phase
or power state (in LISTEN too, which is the model's choice, log entry 16), in REVIVING and with the link not UP it
has no effect. DEADLINE_TIMER_EXPIRY (R58): WAKE_FAIL is counted and its flag set, a failure is reported (R143), and
an UP link goes to RESTART with the link-loss effects (R6, R7). -/
def Obligations.RdyOrDeadlineDecidesWake : Prop :=
  ∀ (n : PortId) (s : State) (t : Nat), s.resetHeld = false → let p := s.port n
    let observed := p.lpe.link = .up ∧ p.psc.rs ≠ .reviving
    let now := max s.now t
    let failed (w : WakeRecord) := Port.failure now { p with
      psc := { p.psc with ps := .waking { w with deadlineTimer := none } }
      counters := { p.counters with wakeFail := satAdd p.counters.wakeFail 1 }
      flags := p.flags ||| BitVec.twoPow 11 7 }
    (¬ observed → exec (.receiveRdy n) s = .next s) ∧
    ((∀ w, p.psc.ps = .waking w → w.phase = .self ∨ w.origin = .partner ∨ w.readySeen = true) →
      exec (.receiveRdy n) s = .next s) ∧
    (∀ w, observed → p.psc.ps = .waking w → w.phase = .partner → w.origin = .localEnd → w.readySeen = false →
      (w.waitTimer ≠ none → exec (.receiveRdy n) s = .next (s.setPort n { p with
        psc := { p.psc with ps := .waking { w with readySeen := true } } })) ∧
      (w.waitTimer = none → exec (.receiveRdy n) s = .next ((s.setPort n { p with
        psc := wakeEnded p.psc }).settle n))) ∧
    (∀ w, p.psc.ps = .waking w → w.deadlineTimer = some t → p.lpe.link = .up →
      exec (.deadlineTimerExpiry n) s = .next (((s.reach t).setPort n { failed w with
        lpe := { (failed w).lpe with link := .restart, acquire := none, restart := some (now + 2000) } }).loseLink
          n true)) ∧
    (∀ w, p.psc.ps = .waking w → w.deadlineTimer = some t → p.lpe.link ≠ .up →
      exec (.deadlineTimerExpiry n) s = .next ((s.reach t).setPort n (failed w)))

/-- WAIT_TIMER_EXPIRY in phase PARTNER (R56): with ready-seen set the wake ends in ACTIVE (R60); with it clear the port
stays in PARTNER, the deadline timer running on, and the wait timer does not restart. -/
def Obligations.WaitTimerEndsReadyWake : Prop :=
  ∀ (n : PortId) (s : State) (w : WakeRecord) (t : Nat), s.resetHeld = false → let p := s.port n
    p.psc.ps = .waking w → w.phase = .partner → w.waitTimer = some t →
    (w.readySeen = true → exec (.waitTimerExpiry n) s = .next (((s.reach t).setPort n { p with
      psc := wakeEnded p.psc }).settle n)) ∧
    (w.readySeen = false → exec (.waitTimerExpiry n) s = .next ((s.reach t).setPort n { p with
      psc := { p.psc with ps := .waking { w with waitTimer := none } } }))

/-! ## The timers of the power state -/

/-- IDLE_TIMER_EXPIRY in ACTIVE (R24): with DIM eligible PS enters DIM and the deep timer starts, unless a record of
DEEP is present and DEEP is eligible, when OFD is sent and PS enters DEEP (R31); a wake cause then acts (R41). A
management frame in reception at the entry into DEEP is dropped without a count (the model's choice, log entry 7).
With DIM not eligible the idle timer restarts. DEEP_TIMER_EXPIRY in DIM (R25): with DEEP eligible OFD is sent and PS
enters OFFER-DEEP with the offer timer; otherwise the deep timer restarts. -/
def Obligations.IdleAndDeepExpiriesDescend : Prop :=
  ∀ (n : PortId) (s : State) (t : Nat), s.resetHeld = false → let p := s.port n
    let now := max s.now t
    let offered := ∃ o, p.psc.offer = some o ∧ o.depth = .deep
    (p.psc.idleTimer = some t → p.psc.ps = .active → p.eligible .dim = false →
      exec (.idleTimerExpiry n) s = .next ((s.reach t).setPort n { p with
        psc := { p.psc with idleTimer := some (now + p.cfg.dimIdle.toNat) } })) ∧
    (p.psc.idleTimer = some t → p.psc.ps = .active → p.eligible .dim = true →
        ¬ (offered ∧ p.eligible .deep = true) →
      exec (.idleTimerExpiry n) s = .next (((s.reach t).setPort n { p with
        psc := { p.psc with ps := .dim, idleTimer := none, deepTimer := some (now + p.cfg.deepIdle.toNat) } }).wakeCheck
          n)) ∧
    (p.psc.idleTimer = some t → p.psc.ps = .active → p.eligible .dim = true → offered → p.eligible .deep = true →
      exec (.idleTimerExpiry n) s = .next (((s.reach t).setPort n (asleepDeep now [.word .ofd] p)).wakeCheck n)) ∧
    (p.psc.deepTimer = some t → p.psc.ps = .dim → p.eligible .deep = false →
      exec (.deepTimerExpiry n) s = .next ((s.reach t).setPort n { p with
        psc := { p.psc with deepTimer := some (now + p.cfg.deepIdle.toNat) } })) ∧
    (p.psc.deepTimer = some t → p.psc.ps = .dim → p.eligible .deep = true →
      exec (.deepTimerExpiry n) s = .next (((s.reach t).setPort n { p with
        psc := { p.psc with
          ps := .offerDeep, deepTimer := none, offerTimer := some (now + p.cfg.offerTimeout.toNat) }
        lineOut := p.lineOut ++ [.word .ofd] }).wakeCheck n))

/-- OFFER_TIMER_EXPIRY (R28, R38): OFFER-DEEP returns to DIM with the deep timer started (that no record of DEEP is
looked up is the model's choice, log entry 15), OFFER-DORMANT to DEEP with the dormant timer started (R31);
OFFER_TIMEOUT is counted and a failure reported (R143). DORMANT_TIMER_EXPIRY in DEEP (R35): with DORMANT eligible
OFM is sent, and PS enters DORMANT where a record of DORMANT is present (R39), else OFFER-DORMANT with the offer
timer; with DORMANT not eligible the dormant timer restarts. A wake cause then acts (R41). -/
def Obligations.OfferAndDormantExpiriesDescend : Prop :=
  ∀ (n : PortId) (s : State) (t : Nat), s.resetHeld = false → let p := s.port n
    let now := max s.now t
    let offered := ∃ o, p.psc.offer = some o ∧ o.depth = .dormant
    let counted := { p.counters with offerTimeout := satAdd p.counters.offerTimeout 1 }
    (p.psc.offerTimer = some t → p.psc.ps = .offerDeep →
      exec (.offerTimerExpiry n) s = .next (((s.reach t).setPort n (Port.failure now { p with
        psc := { p.psc with ps := .dim, offerTimer := none, deepTimer := some (now + p.cfg.deepIdle.toNat) }
        counters := counted })).wakeCheck n)) ∧
    (p.psc.offerTimer = some t → p.psc.ps = .offerDormant →
      exec (.offerTimerExpiry n) s = .next (((s.reach t).setPort n (Port.failure now { p with
        psc := { p.psc with
          ps := .deep, offerTimer := none, dormantTimer := some (now + p.cfg.dormantIdle.toNat * 1000) }
        counters := counted })).wakeCheck n)) ∧
    (p.psc.dormantTimer = some t → p.psc.ps = .deep → p.eligible .dormant = false →
      exec (.dormantTimerExpiry n) s = .next ((s.reach t).setPort n { p with
        psc := { p.psc with dormantTimer := some (now + p.cfg.dormantIdle.toNat * 1000) } })) ∧
    (p.psc.dormantTimer = some t → p.psc.ps = .deep → p.eligible .dormant = true → offered →
      exec (.dormantTimerExpiry n) s = .next (((s.reach t).setPort n (asleepDormant [.word .ofm] p)).wakeCheck n)) ∧
    (p.psc.dormantTimer = some t → p.psc.ps = .deep → p.eligible .dormant = true → ¬ offered →
      exec (.dormantTimerExpiry n) s = .next (((s.reach t).setPort n { p with
        psc := { p.psc with
          ps := .offerDormant, dormantTimer := none, offerTimer := some (now + p.cfg.offerTimeout.toNat) }
        lineOut := p.lineOut ++ [.word .ofm] }).wakeCheck n))

/-- Four expiries that do one thing each: the lapse of a partner-offer-pending record (R30), the end of a revival in
AWAKE with RDY (R64), the release event, which makes a selection (R130, R126), and the urgency-age expiry, which tests
for a promotion (R137, R73). -/
def Obligations.SingleEffectExpiries : Prop :=
  ∀ (n : PortId) (s : State) (t : Nat), s.resetHeld = false → let p := s.port n
    (∀ depth, p.psc.offer = some { depth := depth, expiry := t } →
      exec (.offerRecordLapse n) s = .next ((s.reach t).setPort n { p with psc := { p.psc with offer := none } })) ∧
    (∀ cause, p.psc.revival = some { cause := cause, expiry := t } →
      exec (.revivalTimerExpiry n) s = .next ((s.reach t).setPort n { p with
        psc := { p.psc with rs := .awake, revival := none }, lineOut := p.lineOut ++ said p.lpe.link .rdy })) ∧
    (p.txq.releaseWatch = some t → exec (.releaseEvent n) s = .next (((s.reach t).setPort n { p with
      txq := { p.txq with releaseWatch := none } }).settle n)) ∧
    (p.txq.urgencyWatch = some t → exec (.urgencyAgeExpiry n) s = .next (((s.reach t).setPort n { p with
      txq := { p.txq with urgencyWatch := none } }).promoteCheck n))

/-! ## Frames received on the line -/

/-- RX_FRAME_START (R13, R14): with the link UP and RS AWAKE a frame is sorted by its type byte. A DATA frame clears a
partner-offer-pending record (R30) and is opened at egress with its length and tag (R16, R188); an ADVERT or ECHO is
taken as a management frame; any other type is discarded and counted in MGMT_DISCARD. In LISTEN the start is unannounced
activity (R63); otherwise it is not observed. The model's choices: an unknown type is counted at its start and its rest
ignored (log entry 7), a frame that was unfinished has a line error (log entry 8), a DATA start without a header stands
for a frame that breaks off before its length and tag (log entry 9), and the check sequence takes a byte's most
significant bit first (log entry 11). -/
def Obligations.FrameStartSorted : Prop :=
  ∀ (n : PortId) (type : Byte) (header : Option RxHeader) (s : State), s.resetHeld = false → let p := s.port n
    let broken (rx : RxFrame) (mgmt : Nat) (out : List EgressTx) : Port := { p with
      ssp := { p.ssp with rx := some rx }
      egressOut := p.egressOut ++ cutWords p.ssp.rx ++ out
      counters := { p.counters with
        rxErr := satAdd p.counters.rxErr (delivering p.ssp.rx).toNat
        mgmtDiscard := satAdd p.counters.mgmtDiscard ((if p.ssp.rx = some .management then 1 else 0) + mgmt) } }
    (p.lpe.link ≠ .up ∨ p.psc.rs = .reviving ∨ p.psc.rs = .joint →
      exec (.rxFrameStart n type header) s = .next s) ∧
    (p.lpe.link = .up → p.psc.rs = .listen →
      exec (.rxFrameStart n type header) s = .next (s.setPort n (roused s.now p))) ∧
    (p.lpe.link = .up → p.psc.rs = .awake → type = 1 → ∀ h, header = some h →
      let rx : RxFrame := .data (some h) 0 (crcBytes 0xFFFF ([0x01] ++ beBytes h.length ++ [h.tag]))
      exec (.rxFrameStart n type header) s = .next (s.setPort n
        { broken rx 0 [.opening (frameWord h.length h.tag false)] with psc := { p.psc with offer := none } })) ∧
    (p.lpe.link = .up → p.psc.rs = .awake → type = 1 → header = none →
      exec (.rxFrameStart n type header) s = .next (s.setPort n
        { broken (.data none 0 0xFFFF) 0 [] with psc := { p.psc with offer := none } })) ∧
    (p.lpe.link = .up → p.psc.rs = .awake → type = 2 ∨ type = 3 →
      exec (.rxFrameStart n type header) s = .next (s.setPort n (broken .management 0 []))) ∧
    (p.lpe.link = .up → p.psc.rs = .awake → type = 0 ∨ 3 < type.toNat →
      exec (.rxFrameStart n type header) s = .next (s.setPort n (broken .ignored 1 [])))

/-- RX_DATA_BYTE and RX_FRAME_END (R13, R16). A byte of a DATA frame is delivered; the one that follows 2048 delivered
bytes cuts the frame, whose rest is ignored (the model's choice of the moment, log entry 18). At its end a DATA frame
without a line error, with as many bytes as its length and a length of 64 to 2048, closes clean and is counted in
RX_FRAMES; any other closes with the error mark and is counted in RX_ERR, with length 0 and tag 0 where they never
arrived. The check sequence is received most significant byte first (R189; the order of the bits of a byte is log
entry 11). A management frame that ends here is damaged and counted in MGMT_DISCARD, and outside a frame neither does
anything (the model's choice, log entry 9). A symbol that is not valid inside a frame is one of the ends, and ends and
counts the frame at once (the model's choice, log entry 31). A frame word carries the length, the tag and the error
mark in their fields, a length above 4095 as its low 12 bits (R188). -/
def Obligations.FrameDeliveredAndClosed : Prop :=
  ∀ (n : PortId) (b : Byte) (e : RxEnd) (s : State), s.resetHeld = false → let p := s.port n
    let ends (check : BitVec 16) := e = .normal (check.extractLsb' 8 8) (check.extractLsb' 0 8)
    let counted := satAdd p.counters.rxErr 1
    let closed (out : List EgressTx) (rxFrames rxErr mgmt : Nat) : Port := { p with
      ssp := { p.ssp with rx := none }
      egressOut := p.egressOut ++ out
      counters := { p.counters with
        rxFrames := satAdd p.counters.rxFrames rxFrames
        rxErr := satAdd p.counters.rxErr rxErr
        mgmtDiscard := satAdd p.counters.mgmtDiscard mgmt } }
    (∀ h count check, p.ssp.rx = some (.data (some h) count check) → count < 2048 →
      exec (.rxDataByte n b) s = .next (s.setPort n { p with
        ssp := { p.ssp with rx := some (.data (some h) (count + 1) (crcByte check b)) }
        egressOut := p.egressOut ++ [.byte b] })) ∧
    (∀ h count check, p.ssp.rx = some (.data (some h) count check) → 2048 ≤ count →
      exec (.rxDataByte n b) s = .next (s.setPort n { p with
        ssp := { p.ssp with rx := some .ignored }
        egressOut := p.egressOut ++ [.closing (frameWord h.length h.tag true)]
        counters := { p.counters with rxErr := counted } })) ∧
    ((∀ h count check, p.ssp.rx ≠ some (.data (some h) count check)) → exec (.rxDataByte n b) s = .next s) ∧
    (∀ h count check, p.ssp.rx = some (.data (some h) count check) →
      let sound := ends check ∧ h.length.toNat = count ∧ 64 ≤ count ∧ count ≤ 2048
      (sound → exec (.rxFrameEnd n e) s = .next (s.setPort n
        (closed [.closing (frameWord h.length h.tag false)] 1 0 0))) ∧
      (¬ sound → exec (.rxFrameEnd n e) s = .next (s.setPort n
        (closed [.closing (frameWord h.length h.tag true)] 0 1 0)))) ∧
    (∀ count check, p.ssp.rx = some (.data none count check) → exec (.rxFrameEnd n e) s = .next (s.setPort n
      (closed [.opening (frameWord 0 0 false), .closing (frameWord 0 0 true)] 0 1 0))) ∧
    (p.ssp.rx = some .management → exec (.rxFrameEnd n e) s = .next (s.setPort n (closed [] 0 0 1))) ∧
    (p.ssp.rx = some .ignored → exec (.rxFrameEnd n e) s = .next (s.setPort n (closed [] 0 0 0))) ∧
    (p.ssp.rx = none → exec (.rxFrameEnd n e) s = .next s) ∧
    (∀ length tag mark, let word := frameWord length tag mark
      word.extractLsb' 0 12 = length.setWidth 12 ∧ word.extractLsb' 16 8 = tag ∧
        word.getLsbD 31 = mark)

/-- RECEIVE_ADVERT with a body of the layout of R189. With the link UP and RS AWAKE (R13, R14): a valid one (R90) whose
check sequence matches replaces PA whole, sets PARTNER_ADVERT and makes an ECHO with its seq pending (R91, R92),
which is a wake cause (R40, R41) and asks for a selection: in DIM and in OFFER-DEEP a LOCAL wake begins (R27, R48),
where R91's "keeps its offer" is read of the change of PA alone (the model's choice, log entry 26). One that is not
valid, a body of another length, or a check sequence that does not match is counted in MGMT_DISCARD. Elsewhere it is
not observed.
The check sequence is that of R189, most significant byte first, with the order of bits of log entry 11. The model's
choice (log entries 8 and 9): the command stands for a whole frame, so it ends the management frame whose start has
been taken, and a DATA frame still unfinished closes with the error mark. -/
def Obligations.AdvertReplacesPartner : Prop :=
  ∀ (n : PortId) (seq : BitVec 4) (unused capability : BitVec 2) (dim deep dormant : BitVec 16) (refresh : Byte)
      (other : List Byte) (check : BitVec 16) (s : State), s.resetHeld = false → let p := s.port n
    let receive (b : List Byte) (c : BitVec 16) :=
      exec (.receiveAdvert n { body := b, hi := c.extractLsb' 8 8, lo := c.extractLsb' 0 8 }) s
    let crc (b : List Byte) := crcBytes 0xFFFF (0x02 :: b)
    let body : List Byte := [seq ++ unused ++ capability] ++ beBytes dim ++ beBytes deep ++ beBytes dormant ++ [refresh]
    let valid := 1 ≤ dim.toNat ∧ dim.toNat ≤ deep.toNat ∧ deep.toNat ≤ dormant.toNat ∧ 1 ≤ refresh.toNat ∧
      refresh.toNat ≤ 100
    let q := { p with
      ssp := { p.ssp with rx := none }
      egressOut := p.egressOut ++ cutWords p.ssp.rx
      counters := { p.counters with rxErr := satAdd p.counters.rxErr (delivering p.ssp.rx).toNat } }
    let discarded := s.setPort n { q with
      counters := { q.counters with mgmtDiscard := satAdd p.counters.mgmtDiscard 1 } }
    let observed := p.lpe.link = .up ∧ p.psc.rs = .awake
    let taken := s.setPort n { q with
      adu := { p.adu with
        echoPending := some seq
        pa := { valid := true, seq := seq, capability := capability, tDim := dim, tDeep := deep, tDormant := dormant
                refreshMs := refresh } }
      flags := p.flags ||| BitVec.twoPow 11 4 }
    let woken := (taken.wakeCheck n).settle n
    let wait : SleepDepth := if p.psc.ps = .offerDeep then .deep else .dim
    (¬ observed → receive other check = .next s) ∧
    (observed → other.length ≠ 8 ∨ check ≠ crc other → receive other check = .next discarded) ∧
    (observed → ¬ valid → receive body (crc body) = .next discarded) ∧
    (observed → valid → receive body (crc body) = .next woken) ∧
    (p.psc.ps = .dim ∨ p.psc.ps = .offerDeep →
      let u := woken.port n
      u.adu.echoPending = some seq ∧ u.psc.offerTimer = none ∧
        u.counters.wakesLocal = satAdd p.counters.wakesLocal 1 ∧
        ∃ w, u.psc.ps = .waking w ∧ w.origin = .localEnd ∧ w.selfDepth = .dim ∧ w.waitDepth = wait ∧
          w.budgeted = false ∧ w.phase = .self ∧ w.selfTimer = some (s.now + 2))

/-- RECEIVE_ECHO with a body of the layout of R189 and a check sequence that matches. With the link UP and RS AWAKE,
in PENDING with the current seq, the state becomes ECHOED, the echo timer stops, a pending ADVERT is withdrawn, the
retry count is 0 and ADVERT_DONE is set (R88), and the idle timer follows (R23); with any other seq or in any other
state it is ignored; a body of another length, or a check sequence that does not match, is counted in MGMT_DISCARD
(R13). Elsewhere it is not observed (R14). A frame in reception ends as at RECEIVE_ADVERT (the model's choice, log
entries 8 and 9; the order of the bits in the check sequence is log entry 11). ECHO_TIMER_EXPIRY in PENDING (R89):
below 3 retries the count rises and the ADVERT is made pending again, a wake cause that asks for a selection; at 3 the
state becomes FAILED with ADVERT_FAIL, and the idle timer follows (R23). -/
def Obligations.EchoOrTimeoutMovesExchange : Prop :=
  ∀ (n : PortId) (seq unused : BitVec 4) (other : List Byte) (check : BitVec 16) (t : Nat) (s : State),
    s.resetHeld = false → let p := s.port n
    let receive (b : List Byte) (c : BitVec 16) :=
      exec (.receiveEcho n { body := b, hi := c.extractLsb' 8 8, lo := c.extractLsb' 0 8 }) s
    let crc (b : List Byte) := crcBytes 0xFFFF (0x03 :: b)
    let body : List Byte := [seq ++ unused]
    let q := { p with
      ssp := { p.ssp with rx := none }
      egressOut := p.egressOut ++ cutWords p.ssp.rx
      counters := { p.counters with rxErr := satAdd p.counters.rxErr (delivering p.ssp.rx).toNat } }
    let observed := p.lpe.link = .up ∧ p.psc.rs = .awake
    (¬ observed → receive other check = .next s) ∧
    (observed → other.length ≠ 1 ∨ check ≠ crc other → receive other check = .next (s.setPort n { q with
      counters := { q.counters with mgmtDiscard := satAdd p.counters.mgmtDiscard 1 } })) ∧
    (observed → p.adu.state = .pending → seq = p.adu.seq →
      receive body (crc body) = .next (s.setPort n (Port.idleUpdate s.now { q with
        adu := { p.adu with state := .echoed, echoTimer := none, advertPending := false, retry := 0 }
        flags := p.flags ||| BitVec.twoPow 11 2 }))) ∧
    (observed → p.adu.state ≠ .pending ∨ seq ≠ p.adu.seq → receive body (crc body) = .next (s.setPort n q)) ∧
    (p.adu.echoTimer = some t → p.adu.state = .pending → p.adu.retry < 3 →
      exec (.echoTimerExpiry n) s = .next ((((s.reach t).setPort n { p with
        adu := { p.adu with echoTimer := none, retry := p.adu.retry + 1, advertPending := true } }).wakeCheck n).settle
          n)) ∧
    (p.adu.echoTimer = some t → p.adu.state = .pending → 3 ≤ p.adu.retry →
      exec (.echoTimerExpiry n) s = .next ((s.reach t).setPort n (Port.idleUpdate (max s.now t) { p with
        adu := { p.adu with echoTimer := none, state := .failed, advertPending := false }
        flags := p.flags ||| BitVec.twoPow 11 3 })))

/-! ## Ingress and the transmit queue -/

/-- The levels a port gives out. HOLDOFF n (R103) is asserted exactly while the link is UP and either a FLUSH is in
progress or a frame of 16 cells would not be admitted: beyond the cap, beyond the shared cells, or with 128
descriptors in the queue. LINKOK n is asserted exactly while the link is UP (R4, R6). The fill of the transmitter
(R11) is DIM exactly in UP with PS DIM or OFFER-DEEP or in the SELF phase of a wake of self-depth DIM; it is IDL
exactly in UP with PS ACTIVE or in phase PARTNER, in ACQUIRING, and in DOWN at an enabled port (R2, R3; that RESETN
may be asserted there is log entry 25); otherwise the transmitter sends none (R7, R8, R11). -/
def Obligations.PortOutputLevels : Prop :=
  ∀ (n : PortId) (s : State), let p := s.port n
    let cells (m : PortId) := ((s.port m).txq.queue.map fun d => d.cells.length).sum
    let reserves := (allPorts.map fun m => (s.port m).cfg.reserve.toNat).sum
    let shared := (allPorts.map fun m =>
      (if m = n then cells m + 16 else cells m) - (s.port m).cfg.reserve.toNat).sum
    (s.holdoff n = true ↔ p.lpe.link = .up ∧
      (p.txq.flush ≠ none ∨ p.cfg.cap.toNat < cells n + 16 ∨ 4096 - reserves < shared ∨ 128 ≤ p.txq.queue.length)) ∧
    (s.linkok n = true ↔ p.lpe.link = .up) ∧
    (p.fill = some .dim ↔ p.lpe.link = .up ∧
      (p.psc.ps = .dim ∨ p.psc.ps = .offerDeep ∨
        ∃ w, p.psc.ps = .waking w ∧ w.phase = .self ∧ w.selfDepth = .dim)) ∧
    (p.fill = some .idl ↔
      (p.lpe.link = .up ∧ (p.psc.ps = .active ∨ ∃ w, p.psc.ps = .waking w ∧ w.phase = .partner)) ∨
        p.lpe.link = .acquiring ∨ (p.lpe.link = .down ∧ p.cfg.enable = true))

/-- A frame still in progress at a new frame start ends as with the abort flag set (R111): a queued one by the removal
of its descriptor with DISC_ABORT and what follows a removal (R109, R43; log entries 21 and 27), a bypass frame with
DISC_ABORT and DISCARD, its line frame to end with the error mark (R110), an ignored one without any count. -/
def Obligations.EarlierFrameAborted : Prop :=
  ∀ (n : PortId) (s : State), let p := s.port n
    (p.ssp.ingress = none → s.endEarlier n = s) ∧
    (∀ g, p.ssp.ingress = some g → g.route = .ignore → s.endEarlier n = s) ∧
    (∀ g check e, p.ssp.ingress = some g → g.route = .bypass → p.lpe.tx = .busy (.bypass e) check →
      s.endEarlier n = s.setPort n { p with
        lpe := { p.lpe with tx := .busy (.bypass .errored) check }
        counters := { p.counters with discAbort := satAdd p.counters.discAbort 1 }
        flags := p.flags ||| BitVec.twoPow 11 8 }) ∧
    (∀ g before d, p.ssp.ingress = some g → g.route = .queued → p.txq.queue = before ++ [d] → d.state = .filling →
      (∀ x ∈ before, x.state ≠ .filling) →
      s.endEarlier n = ((s.removeAt n before.length .discAbort).withdrawCheck n).settle n)

/-- SSP_FRAME_START (R106, R111): after the end of an earlier frame, the first condition that holds decides: the link
not UP or the port disabled, HOLDOFF asserted, a length outside 64 to 2048 (each an ignored frame, counted with
DISCARD), a bypass, which begins the line frame (R110), or admission to the queue (R107). Length and tag are those
of the opening word (R188). The order of the bits in the check sequence of a bypass frame is the model's choice (log
entry 11). -/
def Obligations.IngressFrameDecided : Prop :=
  ∀ (n : PortId) (opening : Word) (s : State), s.resetHeld = false →
    let u := s.endEarlier n
    let p := u.port n
    let length := (opening.extractLsb' 0 12).toNat
    let tag := opening.extractLsb' 16 8
    let record (r : Route) : Ssp := { p.ssp with ingress := some { route := r, length := length, tag := tag, count := 0 } }
    let dead := p.lpe.link ≠ .up ∨ p.cfg.enable = false
    let direct := p.cfg.latencyMode = .variable ∧ p.psc.ps = .active ∧ p.txq.queue = [] ∧ p.lpe.tx = .idle ∧
      p.adu.advertPending = false ∧ p.adu.echoPending = none
    let bytes : List Byte := [0x01] ++ beBytes (BitVec.ofNat 16 length) ++ [tag]
    (dead → exec (.sspFrameStart n opening) s = .next (u.setPort n { p with
      ssp := record .ignore
      counters := { p.counters with discNolink := satAdd p.counters.discNolink 1 }
      flags := p.flags ||| BitVec.twoPow 11 8 })) ∧
    (¬ dead → u.holdoff n = true → exec (.sspFrameStart n opening) s = .next (u.setPort n { p with
      ssp := record .ignore
      counters := { p.counters with discHoldoff := satAdd p.counters.discHoldoff 1 }
      flags := p.flags ||| BitVec.twoPow 11 8 })) ∧
    (¬ dead → u.holdoff n = false → length < 64 ∨ 2048 < length →
      exec (.sspFrameStart n opening) s = .next (u.setPort n { p with
        ssp := record .ignore
        counters := { p.counters with discAbort := satAdd p.counters.discAbort 1 }
        flags := p.flags ||| BitVec.twoPow 11 8 })) ∧
    (¬ dead → u.holdoff n = false → 64 ≤ length → length ≤ 2048 → direct →
      exec (.sspFrameStart n opening) s = .next (u.setPort n { p with
        lpe := { p.lpe with tx := .busy (.bypass .running) (crcBytes 0xFFFF bytes) }
        psc := { p.psc with idleTimer := none }
        ssp := record .bypass
        counters := { p.counters with
          admitted := satAdd p.counters.admitted 1, txBypass := satAdd p.counters.txBypass 1 }
        lineOut := p.lineOut ++ [.frameStart bytes] })) ∧
    (¬ dead → u.holdoff n = false → 64 ≤ length → length ≤ 2048 → ¬ direct →
      exec (.sspFrameStart n opening) s = .next ((u.setPort n { p with ssp := record .queued }).admitFrame n length tag))

/-- Admission of a frame to TXQ n (R107): ceil(length ÷ 128) cells from the head of the free list (R100), POOL_LOW where
the free count falls below pool_low (R122), a FILLING descriptor at the tail with the frame start as admission time
and, in FIXED mode, a release time fixed_latency later (R112), ADMITTED counted, a new aging candidate where there
was none (R133); then, in an order that is the model's choice (log entry 21), the watches of a new head (R130,
R137), the promotion test (R73), the wake cause (R40, R41) and the idle timer (R23). -/
def Obligations.AdmissionEffects : Prop :=
  ∀ (n : PortId) (length : Nat) (tag : Byte) (s : State), let p := s.port n
    let k := (length + 127) / 128
    let d : Descriptor := {
      length := length, tag := tag, cells := s.pool.free.take k, admission := s.now, state := .filling, mark := false
      release := if p.cfg.latencyMode = .fixed then some (s.now + p.cfg.fixedLatency.toNat) else none }
    let queue := p.txq.queue ++ [d]
    let deadline := if ∀ x ∈ p.txq.queue, x.state = .transmitting then deadlineFor p.cfg [d] else p.txq.agingDeadline
    let q := { p with
      txq := { p.txq with queue := queue, agingDeadline := deadline }
      counters := { p.counters with admitted := satAdd p.counters.admitted 1 } }
    let u : State := { s.setPort n q with
      pool := { s.pool with free := s.pool.free.drop k }
      dev := { s.dev with
        flags := if s.pool.free.length - k < s.pool.low then s.dev.flags ||| BitVec.twoPow 3 0 else s.dev.flags } }
    let v := ((if p.txq.queue = [] then u.newHead n else u).promoteCheck n).wakeCheck n
    s.admitFrame n length tag = v.setPort n ((v.port n).idleUpdate s.now)

/-- INGRESS_BYTE_ARRIVAL (R105, R108, R110): a byte of a frame in progress is counted; beyond the header length, and on
route IGNORE, nothing else happens. On route BYPASS it goes on the line, under the check sequence (its order of bits is
log entry 11). On route QUEUED byte
i goes to position i mod 128 of the cell at place floor(i ÷ 128) of the list, every other byte of the pool reading as
before. Without a frame in progress the byte is ignored. -/
def Obligations.IngressByteStored : Prop :=
  ∀ (n : PortId) (b : Byte) (s : State), s.resetHeld = false → let p := s.port n
    (p.ssp.ingress = none → exec (.ingressByteArrival n b) s = .next s) ∧
    (∀ g, p.ssp.ingress = some g →
      let counted := { p with ssp := { p.ssp with ingress := some { g with count := g.count + 1 } } }
      (g.length ≤ g.count ∨ g.route = .ignore →
        exec (.ingressByteArrival n b) s = .next (s.setPort n counted)) ∧
      (∀ e check, g.count < g.length → g.route = .bypass → p.lpe.tx = .busy (.bypass e) check →
        exec (.ingressByteArrival n b) s = .next (s.setPort n { counted with
          lpe := { p.lpe with tx := .busy (.bypass e) (crcByte check b) }
          lineOut := p.lineOut ++ [.byte b] })) ∧
      (∀ before d c, g.count < g.length → g.route = .queued → p.txq.queue = before ++ [d] → d.state = .filling →
        (∀ x ∈ before, x.state ≠ .filling) → d.cells[g.count / 128]? = some c → Memory.wf s.pool.data →
        ∃ data, exec (.ingressByteArrival n b) s = .next
            { s.setPort n counted with pool := { s.pool with data := data } } ∧
          Memory.wf data ∧
          ∀ a, Memory.read data a =
            if a = c.val * 128 + g.count % 128 then b else Memory.read s.pool.data a))

/-- SSP_FRAME_END (R105, R109, R110): the frame in progress ends. On route QUEUED, with the byte count equal to the
length and the abort flag clear, the descriptor becomes COMPLETE and a selection follows; otherwise it is removed
with DISC_ABORT (R117, R43; log entries 21 and 27). On route BYPASS the line frame ends normally or, with DISC_ABORT
and DISCARD, with the error mark. On route IGNORE nothing is counted; without a frame in progress nothing happens. -/
def Obligations.IngressFrameEnds : Prop :=
  ∀ (n : PortId) (closing : Word) (s : State), s.resetHeld = false → let p := s.port n
    let ended := { p.ssp with ingress := none }
    (p.ssp.ingress = none → exec (.sspFrameEnd n closing) s = .next s) ∧
    (∀ g, p.ssp.ingress = some g →
      let good := closing.getLsbD 31 = false ∧ g.count = g.length
      (g.route = .ignore → exec (.sspFrameEnd n closing) s = .next (s.setPort n { p with ssp := ended })) ∧
      (∀ e check, g.route = .bypass → p.lpe.tx = .busy (.bypass e) check → good →
        exec (.sspFrameEnd n closing) s = .next (s.setPort n { p with
          ssp := ended, lpe := { p.lpe with tx := .busy (.bypass .clean) check } })) ∧
      (∀ e check, g.route = .bypass → p.lpe.tx = .busy (.bypass e) check → ¬ good →
        exec (.sspFrameEnd n closing) s = .next (s.setPort n { p with
          ssp := ended
          lpe := { p.lpe with tx := .busy (.bypass .errored) check }
          counters := { p.counters with discAbort := satAdd p.counters.discAbort 1 }
          flags := p.flags ||| BitVec.twoPow 11 8 })) ∧
      (∀ before d, g.route = .queued → p.txq.queue = before ++ [d] → d.state = .filling →
        (∀ x ∈ before, x.state ≠ .filling) →
        (good → exec (.sspFrameEnd n closing) s = .next ((s.setPort n { p with
          ssp := ended, txq := { p.txq with queue := before ++ [{ d with state := .complete }] } }).settle n)) ∧
        (¬ good →
          let u := ((s.removeAt n before.length .discAbort).withdrawCheck n).settle n
          exec (.sspFrameEnd n closing) s = .next (u.setPort n { u.port n with
            ssp := { (u.port n).ssp with ingress := none } }))))

/-- TRANSMISSION_COMPLETION (R12): the frame on the line ends with its check sequence, most significant byte first
(R189), or with the error mark for an aborted bypass frame (R110), the transmitter is IDLE, and a selection follows
(R126). A queued frame leaves the queue, its cells freed and TX_FRAMES counted, with the watches of the next head
(R114, R130, R137); a clean bypass frame counts TX_FRAMES (R110); an ADVERT of the current seq in PENDING starts the
echo timer, 2 ms (R87). A bypass frame whose system frame has not ended, and an IDLE transmitter, complete nothing
(log entry 9). -/
def Obligations.TransmissionCompletes : Prop :=
  ∀ (n : PortId) (s : State), s.resetHeld = false → let p := s.port n
    let sent (last : LineTx) : Port := { p with lpe := { p.lpe with tx := .idle }, lineOut := p.lineOut ++ [last] }
    let close (check : BitVec 16) : LineTx := .frameEnd [check.extractLsb' 8 8, check.extractLsb' 0 8]
    let frames := { p.counters with txFrames := satAdd p.counters.txFrames 1 }
    (p.lpe.tx = .idle → exec (.transmissionCompletion n) s = .next s) ∧
    (∀ check, p.lpe.tx = .busy (.bypass .running) check → exec (.transmissionCompletion n) s = .next s) ∧
    (∀ check, p.lpe.tx = .busy (.bypass .clean) check →
      exec (.transmissionCompletion n) s = .next ((s.setPort n { sent (close check) with
        counters := frames }).settle n)) ∧
    (∀ check, p.lpe.tx = .busy (.bypass .errored) check →
      exec (.transmissionCompletion n) s = .next ((s.setPort n (sent .frameError)).settle n)) ∧
    (∀ check d rest, p.lpe.tx = .busy .queued check → p.txq.queue = d :: rest → d.state = .transmitting →
      let done := { sent (close check) with txq := { p.txq with queue := rest }, counters := frames }
      exec (.transmissionCompletion n) s = .next ((({ s.setPort n done with
        pool := { s.pool with free := s.pool.free ++ d.cells } } : State).newHead n).settle n)) ∧
    (∀ check, p.lpe.tx = .busy .echo check →
      exec (.transmissionCompletion n) s = .next ((s.setPort n (sent (close check))).settle n)) ∧
    (∀ check seq, p.lpe.tx = .busy (.advert seq) check → p.adu.state = .pending → seq = p.adu.seq →
      exec (.transmissionCompletion n) s = .next ((s.setPort n { sent (close check) with
        adu := { p.adu with echoTimer := some (s.now + 2000) } }).settle n)) ∧
    (∀ check seq, p.lpe.tx = .busy (.advert seq) check → p.adu.state ≠ .pending ∨ seq ≠ p.adu.seq →
      exec (.transmissionCompletion n) s = .next ((s.setPort n (sent (close check))).settle n))

/-- AGING_EXPIRY with a candidate in the queue (R134): the candidate whose deadline the time base has reached goes with
DISC_AGED (R117), and the withdrawal of a port whose cause has vanished (R43), the selection (R126) and the idle timer
follow; then the next candidate is taken, and goes in the same way where its deadline is reached. An eligible new head is
so started by the selection before its own deadline is looked at (the order of R134's sentences, log entry 29). -/
def Obligations.AgingRemovesCandidates : Prop :=
  ∀ (n : PortId) (s : State) (t : Nat), s.resetHeld = false →
    (s.port n).txq.agingDeadline = some t → (∃ d ∈ (s.port n).txq.queue, d.state ≠ .transmitting) →
    ∃ u, AgedOut n (s.reach t) u ∧ exec (.agingExpiry n) s = .next u

/-- FLUSH with the slot IDLE (R118, R164): where every descriptor is TRANSMITTING, or none is there, it is reported DONE
at once; otherwise every other descriptor is marked, the flush record holds their number with the first removal 1 µs
away, and the slot is BUSY with FLUSH IN PROGRESS. FLUSH_REMOVAL (R118): the oldest marked descriptor goes with
DISC_FLUSH (R117), and the next removal is due 1 µs later, a new aging candidate past its deadline left to its own
expiry (the model's choice, log entry 27); then the withdrawal (R43), the selection and the idle timer. -/
def Obligations.FlushMarksThenRemoves : Prop :=
  ∀ (n : PortId) (s : State), s.resetHeld = false → let p := s.port n
    let others := p.txq.queue.filter fun d => d.state != .transmitting
    (p.slot.busy = false → others = [] → exec (.flush n) s = .next (s.setPort n { p with
      slot := { busy := false, command := .flush, result := .done, reason := .none }
      flags := p.flags ||| BitVec.twoPow 11 9 })) ∧
    (p.slot.busy = false → others ≠ [] → exec (.flush n) s = .next (s.setPort n { p with
      txq := { p.txq with
        queue := p.txq.queue.map fun d => if d.state = .transmitting then d else { d with mark := true }
        flush := some { left := others.length, next := s.now + 1 } }
      slot := { busy := true, command := .flush, result := .inProgress, reason := .none } })) ∧
    (∀ f before d after, p.txq.flush = some f → p.txq.queue = before ++ d :: after → d.mark = true →
      (∀ x ∈ before, x.mark = false) →
      let u := (s.reach f.next).setPort n { p with
        txq := { p.txq with flush := some { left := f.left, next := max s.now f.next + 1 } } }
      exec (.flushRemoval n) s = .next (((u.removeAt n before.length .discFlush).withdrawCheck n).settle n))

/-! ## Governor and residency -/

/-- RESTORE_TIMER_EXPIRY (R146): a ceiling below the live max_ceiling rises one level with CEILING_UP, and the timer
restarts with the live restore_period; at max_ceiling it only restarts. RESIDENCY_TIMER_EXPIRY (R173): every port that
is not OFFLINE counts one unit in the counter of its power state: RES_ACTIVE in ACTIVE and WAKING, RES_DIM in DIM and
OFFER-DEEP, RES_DEEP in DEEP, OFFER-DORMANT and GRANT-WAIT from DEEP, RES_DORMANT in DORMANT and GRANT-WAIT from
DORMANT; the timer restarts, 100 µs. -/
def Obligations.RestoreAndResidencyExpiries : Prop :=
  ∀ (n : PortId) (s : State) (t : Nat), s.resetHeld = false → let p := s.port n
    let restore := some (max s.now t + p.cfg.restorePeriod.toNat * 1000000)
    let one (b : Prop) [Decidable b] : Nat := if b then 1 else 0
    let unit (p : Port) : Port :=
      let fromDepth (d : JointDepth) : Bool := match p.psc.ps with | .grantWait r => r.fromDepth == d | _ => false
      let waking : Bool := match p.psc.ps with | .waking _ => true | _ => false
      { p with counters := { p.counters with
        resActive := satAdd p.counters.resActive (one (p.psc.ps = .active ∨ waking = true))
        resDim := satAdd p.counters.resDim (one (p.psc.ps = .dim ∨ p.psc.ps = .offerDeep))
        resDeep := satAdd p.counters.resDeep
          (one (p.psc.ps = .deep ∨ p.psc.ps = .offerDormant ∨ fromDepth .deep = true))
        resDormant := satAdd p.counters.resDormant (one (p.psc.ps = .dormant ∨ fromDepth .dormant = true)) } }
    (∀ d : Depth, p.dgv.restore = some t → d.level = p.dgv.ceiling.level + 1 → d.level ≤ p.cfg.maxCeiling.level →
      exec (.restoreTimerExpiry n) s = .next ((s.reach t).setPort n { p with
        dgv := { p.dgv with ceiling := d, restore := restore }, flags := p.flags ||| BitVec.twoPow 11 6 })) ∧
    (p.dgv.restore = some t → p.cfg.maxCeiling.level ≤ p.dgv.ceiling.level →
      exec (.restoreTimerExpiry n) s = .next ((s.reach t).setPort n { p with
        dgv := { p.dgv with restore := restore } })) ∧
    (s.dev.residency = some t → exec .residencyTimerExpiry s = .next { s.reach t with
      ports := s.ports.map unit, dev := { s.dev with residency := some (max s.now t + 100) } })

/-! ## Commands and configuration -/

/-- The decision at a command slot (R158): while a FLUSH runs every command but PORT_RESET and an unknown word is refused
BUSY; an unknown word is refused INVALID in either slot state; a refusal enters the record and sets CMD_REJECT. With the
slot IDLE, RESTORE_CEILING sets the ceiling to the live max_ceiling and the failure counter to 0, with CEILING_UP if the
ceiling rose (R149), and CLEAR_COUNTERS makes every counter of the port 0 (R167); each is reported DONE. -/
def Obligations.SlotDecisions : Prop :=
  ∀ (n : PortId) (s : State), s.resetHeld = false → let p := s.port n
    let refused (c : SlotCommand) (r : Reason) := s.setPort n { p with
      slot := { busy := p.slot.busy, command := c, result := .rejected, reason := r }
      flags := p.flags ||| BitVec.twoPow 11 10 }
    let done (c : SlotCommand) : Slot := { busy := false, command := c, result := .done, reason := .none }
    (p.slot.busy = true →
      exec (.apply n) s = .next (refused .apply .busy) ∧ exec (.forceWake n) s = .next (refused .forceWake .busy) ∧
      exec (.flush n) s = .next (refused .flush .busy) ∧ exec (.sendAdvert n) s = .next (refused .sendAdvert .busy) ∧
      exec (.restoreCeiling n) s = .next (refused .restoreCeiling .busy) ∧
      exec (.clearCounters n) s = .next (refused .clearCounters .busy)) ∧
    exec (.unknownCommand n) s = .next (refused .unknown .invalid) ∧
    (p.slot.busy = false →
      exec (.restoreCeiling n) s = .next (s.setPort n { p with
        dgv := { p.dgv with ceiling := p.cfg.maxCeiling, failures := 0 }
        slot := done .restoreCeiling
        flags := p.flags ||| (if p.dgv.ceiling.level < p.cfg.maxCeiling.level then BitVec.twoPow 11 6 else 0)
          ||| BitVec.twoPow 11 9 })) ∧
    (p.slot.busy = false → exec (.clearCounters n) s = .next (s.setPort n { p with
      counters := {}, slot := done .clearCounters, flags := p.flags ||| BitVec.twoPow 11 9 }))

/-- APPLY with the slot IDLE (R159, R160, R161). A staging copy out of range, with an age_limit that does not exceed a
fixed_latency in FIXED mode (R136), or with reserves that no longer fit beside the shared cells in use is refused
INVALID; one that would change latency_mode, reserve or cap with the link UP and the port not idle is refused NOT_IDLE.
Otherwise the live copy takes it whole, a lowered max_ceiling pulls the ceiling down (R150), a changed fail_threshold
clears the failure counter (R151), enable from 1 to 0 takes the link to DOWN, out of UP with the link-loss effects, from
0 to 1 to RESTART (R8), and the command is reported DONE. -/
def Obligations.ApplyTakesStaging : Prop :=
  ∀ (n : PortId) (s : State), s.resetHeld = false → let p := s.port n
    p.slot.busy = false →
    let c := p.staging
    let reserve (m : PortId) := if m = n then c.reserve.toNat else (s.port m).cfg.reserve.toNat
    let held (m : PortId) := ((s.port m).txq.queue.map fun d => d.cells.length).sum
    let inUse := (allPorts.map fun m => held m - (s.port m).cfg.reserve.toNat).sum
    let valid := (1 ≤ c.fixedLatency.toNat ∧ 1 ≤ c.dimIdle.toNat ∧ 1 ≤ c.deepIdle.toNat ∧ c.deepIdle.toNat ≤ 1000000 ∧
        1 ≤ c.dormantIdle.toNat ∧ c.dormantIdle.toNat ≤ 60000 ∧ 10 ≤ c.offerTimeout.toNat ∧
        c.offerTimeout.toNat ≤ 10000 ∧ 1 ≤ c.refreshInterval.toNat ∧ c.refreshInterval.toNat ≤ 100 ∧
        1 ≤ c.wakeGuard.toNat ∧ c.ageLimit.toNat ≤ 10000 ∧ c.urgencyCells.toNat ≤ 4096 ∧ c.reserve.toNat ≤ 1024 ∧
        c.reserve.toNat ≤ c.cap.toNat ∧ 16 ≤ c.cap.toNat ∧ c.cap.toNat ≤ 4096 ∧ 1 ≤ c.failThreshold.toNat ∧
        c.failThreshold.toNat ≤ 8 ∧ 1 ≤ c.restorePeriod.toNat) ∧
      (c.latencyMode = .fixed → c.ageLimit ≠ 0 → c.fixedLatency.toNat < c.ageLimit.toNat * 1000) ∧
      (allPorts.map reserve).sum + inUse ≤ 4096
    let changes := c.latencyMode ≠ p.cfg.latencyMode ∨ c.reserve ≠ p.cfg.reserve ∨ c.cap ≠ p.cfg.cap
    let idle := p.txq.queue = [] ∧ ∀ e check, p.lpe.tx ≠ .busy (.bypass e) check
    let blocked := changes ∧ p.lpe.link = .up ∧ ¬ idle
    let refused (r : Reason) := s.setPort n { p with
      slot := { busy := false, command := .apply, result := .rejected, reason := r }
      flags := p.flags ||| BitVec.twoPow 11 10 }
    let taken := { p with
      cfg := c
      dgv := { p.dgv with
        ceiling := if c.maxCeiling ≠ p.cfg.maxCeiling ∧ c.maxCeiling.level < p.dgv.ceiling.level then c.maxCeiling
          else p.dgv.ceiling
        failures := if c.failThreshold ≠ p.cfg.failThreshold then 0 else p.dgv.failures } }
    let down := { taken with lpe := { p.lpe with link := .down, acquire := none, restart := none } }
    let restart := { taken with lpe := { p.lpe with link := .restart, acquire := none, restart := some (s.now + 2000) } }
    let reported (t : State) := t.setPort n { t.port n with
      slot := { busy := false, command := .apply, result := .done, reason := .none }
      flags := (t.port n).flags ||| BitVec.twoPow 11 9 }
    (¬ valid → exec (.apply n) s = .next (refused .invalid)) ∧
    (valid → blocked → exec (.apply n) s = .next (refused .notIdle)) ∧
    (valid → ¬ blocked → p.cfg.enable = c.enable → exec (.apply n) s = .next (reported (s.setPort n taken))) ∧
    (valid → ¬ blocked → p.cfg.enable = true → c.enable = false →
      exec (.apply n) s = .next (reported
        (if p.lpe.link = .up then (s.setPort n down).loseLink n true else s.setPort n down))) ∧
    (valid → ¬ blocked → p.cfg.enable = false → c.enable = true →
      exec (.apply n) s = .next (reported (s.setPort n restart)))

/-- FORCE_WAKE with the slot IDLE (R163): refused NO_LINK with the link not UP; otherwise reported DONE after its effect:
none in ACTIVE; the force flag set and the promotion test in GRANT-WAIT (R73); the force flag set, a wake cause as any
other, in every other power state (R40, R41). -/
def Obligations.ForceWakeSetsCause : Prop :=
  ∀ (n : PortId) (s : State), s.resetHeld = false → let p := s.port n
    p.slot.busy = false →
    let forced := s.setPort n { p with psc := { p.psc with force := true } }
    let reported (t : State) := t.setPort n { t.port n with
      slot := { busy := false, command := .forceWake, result := .done, reason := .none }
      flags := (t.port n).flags ||| BitVec.twoPow 11 9 }
    (p.lpe.link ≠ .up → exec (.forceWake n) s = .next (s.setPort n { p with
      slot := { busy := false, command := .forceWake, result := .rejected, reason := .noLink }
      flags := p.flags ||| BitVec.twoPow 11 10 })) ∧
    (p.lpe.link = .up → p.psc.ps = .active → exec (.forceWake n) s = .next (reported s)) ∧
    (∀ r, p.lpe.link = .up → p.psc.ps = .grantWait r →
      exec (.forceWake n) s = .next (reported (forced.promoteCheck n))) ∧
    (p.lpe.link = .up → p.psc.ps ≠ .active → p.psc.ps.isGrantWait = false →
      exec (.forceWake n) s = .next (reported (forced.wakeCheck n)))

/-- SEND_ADVERT with the slot IDLE (R86, R166): LA staging that fails the validation is refused INVALID, an exchange in
PENDING refuses BUSY; in UNSENT LA live takes the staging values, and in ECHOED and FAILED a new exchange begins as well
(R84, R85), whose pending ADVERT is a wake cause and asks for a selection; both are reported DONE. -/
def Obligations.SendAdvertStartsExchange : Prop :=
  ∀ (n : PortId) (s : State), s.resetHeld = false → let p := s.port n
    p.slot.busy = false →
    let la := p.adu.laStaging
    let valid := 2 ≤ la.tDim.toNat ∧ 40 ≤ la.tDeep.toNat ∧ 1500 ≤ la.tDormant.toNat ∧ la.tDim.toNat ≤ la.tDeep.toNat ∧
      la.tDeep.toNat ≤ la.tDormant.toNat
    let refused (r : Reason) := s.setPort n { p with
      slot := { busy := false, command := .sendAdvert, result := .rejected, reason := r }
      flags := p.flags ||| BitVec.twoPow 11 10 }
    let reported (t : State) := t.setPort n { t.port n with
      slot := { busy := false, command := .sendAdvert, result := .done, reason := .none }
      flags := (t.port n).flags ||| BitVec.twoPow 11 9 }
    let begun := s.setPort n { p with adu := { p.adu with
      laLive := la, seq := p.adu.seq + 1, state := .pending, retry := 0, advertPending := true
      image := some {
        seq := p.adu.seq + 1, capability := BitVec.ofNat 2 p.cfg.maxCeiling.level
        tDim := la.tDim, tDeep := la.tDeep, tDormant := la.tDormant
        refreshMs := p.cfg.refreshInterval.setWidth 8 } } }
    (¬ valid → exec (.sendAdvert n) s = .next (refused .invalid)) ∧
    (valid → p.adu.state = .pending → exec (.sendAdvert n) s = .next (refused .busy)) ∧
    (valid → p.adu.state = .unsent → exec (.sendAdvert n) s = .next (reported (s.setPort n { p with
      adu := { p.adu with laLive := la } }))) ∧
    (valid → p.adu.state = .echoed ∨ p.adu.state = .failed →
      exec (.sendAdvert n) s = .next (reported ((begun.wakeCheck n).settle n)))

/-- PORT_RESET (R168): a FLUSH ends unreported (R165); an UP link takes the link-loss effects (R6, R45, R80, R96, R120);
an enabled port is then in RESTART, a disabled one in DOWN (R9), the ceiling at the live max_ceiling with the
failure counter 0 and the restore timer stopped (R152); the command is reported DONE. A refresh loss or a missed
wake that the time base has reached and whose expiry has not been taken falls together with the reset: either
nothing of it is left (the loss first, R66), or it is counted and reported after that setting (R152), and which of
the two is a free value (log entry 24). -/
def Obligations.PortResetEffects : Prop :=
  ∀ (n : PortId) (s : State), s.resetHeld = false → let p := s.port n
    let v := s.setPort n { p with txq := { p.txq with flush := none } }
    let w := if p.lpe.link = .up then v.loseLink n true else v
    let q := w.port n
    let set := { q with
      lpe := { q.lpe with
        link := if p.cfg.enable = true then .restart else .down
        acquire := none
        restart := if p.cfg.enable = true then some (s.now + 2000) else none
        tx := .idle
        lastFill := none }
      dgv := { ceiling := p.cfg.maxCeiling, failures := 0, restore := none } }
    let r := if Config.failureFirst s.draws n = true then failedAt s.now p set else set
    exec (.portReset n) s = .next { w.setPort n { r with
      slot := { busy := false, command := .portReset, result := .done, reason := .none }
      flags := r.flags ||| BitVec.twoPow 11 9 } with draws := s.draws + 1 }

/-- SOFT_RESET (R169, R81, R123, R180), from every state that keeps the link law: every enabled port goes to RESTART,
every disabled one to DOWN, each with its queue, exchange, power state and governor as after a link loss or a reset,
its slot, counters and flags clear; a frame in flight is truncated and one being delivered closes with the error
mark; the arbiter's queue is empty and its count 0, the free list ascending, the device flags and
BUDGET_EXCEEDED_COUNT clear, the device record SOFT_RESET and DONE. Enables, W, pool_low, both copies of the
configuration, LA and seq stay. A refresh loss or a missed wake of the same moment leaves nothing, or a report at
DGV n after its setting (R66, R152), its counter and flags cleared; which of the two is a free value (log entry 24).
How the frames end that are on the line and at egress is log entry 20. -/
def Obligations.SoftResetEffects : Prop :=
  ∀ s : State, s.resetHeld = false → s.LinkLaw →
    let after (p : Port) : Port := { p with
      lpe := { p.lpe with
        link := if p.cfg.enable = true then .restart else .down
        acquire := none
        restart := if p.cfg.enable = true then some (s.now + 2000) else none
        tx := .idle
        lastFill := none }
      psc := {}
      adu := { p.adu with state := .unsent, retry := 0, echoTimer := none, image := none, advertPending := false
                          echoPending := none, pa := {} }
      txq := {}
      ssp := { ingress := p.ssp.ingress.map fun g => { g with route := .ignore }, rx := none }
      dgv := { ceiling := p.cfg.maxCeiling, failures := 0, restore := none }
      slot := { busy := false, command := .none, result := .none, reason := .none }
      counters := {}
      flags := 0
      lineOut := p.lineOut ++ (if p.lpe.tx = .idle then [] else [.truncated])
      egressOut := p.egressOut ++ cutWords p.ssp.rx }
    exec .softReset s = .next { s with
      ports := Vector.ofFn fun n =>
        let p := s.port n
        if Config.failureFirst s.draws n = true then
          { failedAt s.now p (after p) with counters := {}, flags := 0 }
        else after p
      draws := s.draws + 1
      wba := { w := s.wba.w, count := 0, queue := [] }
      pool := { s.pool with free := (List.range 4096).map (Fin.ofNat 4096) }
      dev := { s.dev with softResetDone := true, flags := 0, budgetExceeded := 0 } }

/-! ## The register window -/

/-- WRITE_W (R70): 1 to 8 replaces W, and the grants of the test follow; a test that finds the count at or above the new
W, and with the arbiter's law a write of the value W holds, grants nothing and moves no wake; any other value is ignored
with ACCESS_ERROR. A read of WBUDGET returns W. -/
def Obligations.WriteOfW : Prop :=
  ∀ (value : Word) (s : State), s.resetHeld = false →
    let w := value.toNat
    let written : State := { s with wba := { s.wba with w := w } }
    (1 ≤ w → w ≤ 8 → ∃ t, exec (.writeW value) s = .next t ∧ Grants written t ∧ t.wba.w = w ∧
      (w ≤ t.wba.count ∨ t.wba.queue = [])) ∧
    (1 ≤ w → w ≤ 8 → w ≤ s.wba.count ∨ (w = s.wba.w ∧ s.ArbiterLaw) → exec (.writeW value) s = .next written) ∧
    (w = 0 ∨ 8 < w → exec (.writeW value) s = .next { s with
      dev := { s.dev with flags := s.dev.flags ||| BitVec.twoPow 3 2 } }) ∧
    (s.ArbiterLaw → exec (.faultyAccess (.read 0x00C)) s = .next { s with readData := BitVec.ofNat 32 s.wba.w })

/-- WRITE_POOL_LOW (R121, R183): the field in bits 15 to 0 of the written word becomes pool_low at once, a value of
4097 to 65535 as 4096; the bits above the field are ignored (R182), so that the word 65536 stores 0 (the model's
choice, log entry 32, since R183 also says that the word is read as a whole number). After pin reset pool_low is
256; SOFT_RESET keeps it; a read of POOL_LOW returns the stored value. -/
def Obligations.WriteOfPoolLow : Prop :=
  ∀ (value : Word) (s : State),
    (s.resetHeld = false → exec (.writePoolLow value) s = .next { s with
      pool := { s.pool with low := min (value.extractLsb' 0 16).toNat 4096 } }) ∧
    (∃ t, exec .pinReset s = .next t ∧ t.pool.low = 256) ∧
    (∃ t, exec .softReset s = .next t ∧ t.pool.low = s.pool.low) ∧
    (s.resetHeld = false → s.pool.low ≤ 4096 →
      exec (.faultyAccess (.read 0x010)) s = .next { s with readData := BitVec.ofNat 32 s.pool.low })

/-- The flags, the enables and what they drive. FLAG_CLEAR_WRITE clears each flag of its location whose bit is 1 and
no other (R175); ENABLE_WRITE replaces every enable of its location (R176); DEV_CMD_INVALID sets ACCESS_ERROR and
keeps the device record (R169). The port summary holds a 1 for a port exactly where one of its flags is set with its
enable (R177), and IRQN is asserted exactly while such a flag stands at a port or at the device (R178). -/
def Obligations.FlagsEnablesAndInterrupt : Prop :=
  ∀ (n : PortId) (value : Word) (s : State),
    let p := s.port n
    let lit (m : PortId) := ∃ i, (s.port m).flags.getLsbD i = true ∧ (s.port m).enables.getLsbD i = true
    (s.resetHeld = false →
      exec (.flagClearWrite (.port n) value) s = .next (s.setPort n { p with
        flags := p.flags &&& ~~~(value.extractLsb' 0 11) }) ∧
      exec (.flagClearWrite .device value) s = .next { s with
        dev := { s.dev with flags := s.dev.flags &&& ~~~(value.extractLsb' 0 3) } } ∧
      exec (.enableWrite (.port n) value) s = .next (s.setPort n { p with enables := value.extractLsb' 0 11 }) ∧
      exec (.enableWrite .device value) s = .next { s with
        dev := { s.dev with enables := value.extractLsb' 0 3 } } ∧
      exec .devCmdInvalid s = .next { s with
        dev := { s.dev with flags := s.dev.flags ||| BitVec.twoPow 3 2 } }) ∧
    (s.portSummary.getLsbD n.val = true ↔ lit n) ∧
    (s.irqAsserted = true ↔
      (∃ m, lit m) ∨ ∃ i, s.dev.flags.getLsbD i = true ∧ s.dev.enables.getLsbD i = true)

/-- The register window: REGISTER_WRITE and FAULTY_ACCESS. A read of a mapped location returns its fields as they stand,
in the bits of the tables, every other bit 0, and changes nothing (R182 to R187): the identification, the device
page, the arbiter view, both copies of the configuration and of LA, PA, the status, HEAD_AGE, the slot, the flags,
the enables and the counters; CMD reads 0. A full write at a staging word replaces its fields and nothing else
(R155, R182, R186); at CMD the word names a port command by its whole value, every other an unknown one (R158,
R187); at DEV_CMD 1 is SOFT_RESET and every other word is invalid (R169, R183); at FLAGS, FLAG_EN, DEV_FLAGS,
DEV_FLAG_EN, WBUDGET and POOL_LOW it is the write of that location (R70, R121, R175, R176). A read of an unmapped
offset, each named here, returns 0 and sets ACCESS_ERROR; a write there, a write of less than all four byte lanes
anywhere, and a write to a read-only location set ACCESS_ERROR and change nothing else (R179, R182). The model's
choices: an offset that is no multiple of four is unmapped (log entry 12); an access that is not faulty may stand in
FAULTY_ACCESS, and any full write in REGISTER_WRITE (log entry 13). -/
def Obligations.WindowAccesses : Prop :=
  ∀ (n : PortId) (v : Word) (s : State), s.resetHeld = false → let p := s.port n
    let page := 0x200 + n.val * 0x100
    let writes (at_ : Nat) (q : Port) := exec (.registerWrite (BitVec.ofNat 12 (page + at_)) v) s = .next (s.setPort n q)
    let reads (offset : Nat) (w : Word) :=
      exec (.faultyAccess (.read (BitVec.ofNat 12 offset))) s = .next { s with readData := w }
    let full (offset : Nat) := exec (.registerWrite (BitVec.ofNat 12 offset) v) s
    let held (m : PortId) := ((s.port m).txq.queue.map fun d => d.cells.length).sum
    let inUse := (allPorts.map fun m => held m - (s.port m).cfg.reserve.toNat).sum
    let record (c : PortConfig) : List Word := [
      0#16 ++ c.restorePeriod ++ c.failThreshold ++ BitVec.ofBool (c.latencyMode == .fixed) ++
        BitVec.ofNat 2 c.maxCeiling.level ++ BitVec.ofBool c.enable,
      c.wakeGuard ++ c.fixedLatency, c.urgencyAge ++ c.dimIdle, 0#12 ++ c.deepIdle, c.offerTimeout ++ c.dormantIdle,
      0#2 ++ c.ageLimit ++ 0#9 ++ c.refreshInterval, 0#3 ++ c.cap ++ 0#5 ++ c.reserve, 0#19 ++ c.urgencyCells]
    let la (a : LaRecord) : List Word := [a.tDeep ++ a.tDim, 0#16 ++ a.tDormant]
    let pa : List Word := [
      0#9 ++ p.adu.pa.refreshMs.setWidth 7 ++ 0#6 ++ p.adu.pa.capability ++ p.adu.pa.seq ++ 0#3 ++
        BitVec.ofBool p.adu.pa.valid,
      p.adu.pa.tDeep ++ p.adu.pa.tDim, 0#16 ++ p.adu.pa.tDormant]
    let link : BitVec 2 := match p.lpe.link with | .down => 0 | .acquiring => 1 | .up => 2 | .restart => 3
    let ps : BitVec 4 := match p.psc.ps with
      | .offline => 0 | .active => 1 | .dim => 2 | .offerDeep => 3 | .deep => 4 | .offerDormant => 5 | .dormant => 6
      | .grantWait _ => 7 | .waking _ => 8
    let rs : BitVec 2 := match p.psc.rs with | .awake => 0 | .listen => 1 | .reviving => 2 | .joint => 3
    let ceiling : BitVec 2 := match p.dgv.ceiling with | .none => 0 | .dim => 1 | .deep => 2 | .dormant => 3
    let advert : BitVec 2 := match p.adu.state with | .unsent => 0 | .pending => 1 | .echoed => 2 | .failed => 3
    let head : BitVec 2 := match p.txq.queue.head? with
      | none => 0
      | some d => match d.state with | .filling => 1 | .complete => 2 | .transmitting => 3
    let age := match p.txq.queue.head? with | none => 0 | some d => s.now - d.admission
    let command : BitVec 4 := match p.slot.command with
      | .none => 0 | .apply => 1 | .forceWake => 2 | .flush => 3 | .sendAdvert => 4 | .restoreCeiling => 5
      | .clearCounters => 6 | .portReset => 7 | .unknown => 15
    let result : BitVec 2 := match p.slot.result with | .none => 0 | .inProgress => 1 | .done => 2 | .rejected => 3
    let reason : BitVec 3 := match p.slot.reason with
      | .none => 0 | .busy => 1 | .invalid => 2 | .notIdle => 3 | .noLink => 4
    let status : List Word := [
      0#4 ++ p.adu.seq ++ 0#2 ++ advert ++ 0#1 ++ BitVec.ofNat 3 p.dgv.failures ++ 0#2 ++ ceiling ++ 0#2 ++ rs ++ ps ++
        0#2 ++ link,
      0#3 ++ BitVec.ofNat 13 (held n) ++ 0#6 ++ head ++ BitVec.ofNat 8 p.txq.queue.length,
      BitVec.ofNat 32 (min age 4294967295), 0,
      0#17 ++ reason ++ 0#2 ++ result ++ command ++ 0#3 ++ BitVec.ofBool p.slot.busy, 0#21 ++ p.flags, 0#21 ++ p.enables]
    let k := p.counters
    let device : List Word := [
      0x5E180DA5, 0x01, if s.dev.softResetDone = true then 0x101 else 0, 0#28 ++ BitVec.ofNat 4 s.wba.w,
      0#16 ++ BitVec.ofNat 16 s.pool.low, 0#3 ++ BitVec.ofNat 13 inUse ++ 0#3 ++ BitVec.ofNat 13 s.pool.free.length,
      0#20 ++ BitVec.ofNat 4 s.wba.queue.length ++ 0#4 ++ BitVec.ofNat 4 s.wba.count, 0#29 ++ s.dev.flags,
      0#29 ++ s.dev.enables, 0#24 ++ s.portSummary, s.dev.budgetExceeded]
    let shows (start : Nat) (words : List Word) := ∀ i w, words[i]? = some w → reads (start + 4 * i) w
    let faulty : State := { s with dev := { s.dev with flags := s.dev.flags ||| BitVec.twoPow 3 2 } }
    let unmapped (a : Nat) := a % 4 ≠ 0 ∨ (0x02C ≤ a ∧ a < 0x100) ∨ (0x140 ≤ a ∧ a < 0x200) ∨ 0xA00 ≤ a ∨
      (0x200 ≤ a ∧ (a % 0x100 = 0x78 ∨ a % 0x100 = 0x7C ∨ a % 0x100 = 0xBC ∨ 0xE0 ≤ a % 0x100))
    let readOnly (a : Nat) := ¬ unmapped a ∧
      (a = 0x000 ∨ a = 0x004 ∨ a = 0x014 ∨ a = 0x018 ∨ a = 0x024 ∨ a = 0x028 ∨ (0x100 ≤ a ∧ a < 0x140) ∨
        (0x200 ≤ a ∧ ((0x20 ≤ a % 0x100 ∧ a % 0x100 < 0x40) ∨ (0x48 ≤ a % 0x100 ∧ a % 0x100 < 0x68) ∨
          a % 0x100 = 0x6C ∨ 0x80 ≤ a % 0x100)))
    shows 0 device ∧
    (∀ i < 8, s.wba.queue[i]? = none → shows (0x100 + 8 * i) [0, 0]) ∧
    (∀ i < 8, ∀ e, s.wba.queue[i]? = some e → shows (0x100 + 8 * i) [
      0#19 ++ BitVec.ofBool (e.fromDepth == .dormant) ++ 0#3 ++ BitVec.ofBool (e.cls == .urgent) ++ 0#1 ++
        BitVec.ofNat 3 e.port.val ++ 0#3 ++ 1#1,
      BitVec.ofNat 32 (min (s.now - e.entryTime) 4294967295)]) ∧
    shows page (record p.staging) ∧ shows (page + 0x20) (record p.cfg) ∧
    shows (page + 0x40) (la p.adu.laStaging) ∧ shows (page + 0x48) (la p.adu.laLive) ∧ shows (page + 0x50) pa ∧
    shows (page + 0x5C) status ∧
    shows (page + 0x80) [k.admitted, k.txFrames, k.txBypass, k.late, k.discHoldoff, k.discNolink, k.discAbort, k.discAged,
      k.discFlush, k.discLinkdown, k.wakesLocal, k.wakesPartner, k.wakeFail, k.offerTimeout, k.refreshLoss] ∧
    shows (page + 0xC0) [k.rxFrames, k.rxErr, k.rxUnannounced, k.mgmtDiscard, k.resActive, k.resDim, k.resDeep,
      k.resDormant] ∧
    full (page + 0x68) = exec (match v.toNat with
      | 1 => .apply n | 2 => .forceWake n | 3 => .flush n | 4 => .sendAdvert n | 5 => .restoreCeiling n
      | 6 => .clearCounters n | 7 => .portReset n | _ => .unknownCommand n) s ∧
    full (page + 0x70) = exec (.flagClearWrite (.port n) v) s ∧
    full (page + 0x74) = exec (.enableWrite (.port n) v) s ∧
    full 0x008 = exec (if v = 1 then .softReset else .devCmdInvalid) s ∧
    full 0x00C = exec (.writeW v) s ∧ full 0x010 = exec (.writePoolLow v) s ∧
    full 0x01C = exec (.flagClearWrite .device v) s ∧ full 0x020 = exec (.enableWrite .device v) s ∧
    (∀ offset, exec (.faultyAccess (.write offset 0b1111 v)) s = exec (.registerWrite offset v) s) ∧
    writes 0x00 { p with staging := { p.staging with
      enable := v.getLsbD 0, failThreshold := v.extractLsb' 4 4, restorePeriod := v.extractLsb' 8 8
      maxCeiling := match (v.extractLsb' 1 2).toNat with | 0 => .none | 1 => .dim | 2 => .deep | _ => .dormant
      latencyMode := if v.getLsbD 3 then .fixed else .variable } } ∧
    writes 0x04 { p with staging := { p.staging with
      fixedLatency := v.extractLsb' 0 16, wakeGuard := v.extractLsb' 16 16 } } ∧
    writes 0x08 { p with staging := { p.staging with
      dimIdle := v.extractLsb' 0 16, urgencyAge := v.extractLsb' 16 16 } } ∧
    writes 0x0C { p with staging := { p.staging with deepIdle := v.extractLsb' 0 20 } } ∧
    writes 0x10 { p with staging := { p.staging with
      dormantIdle := v.extractLsb' 0 16, offerTimeout := v.extractLsb' 16 16 } } ∧
    writes 0x14 { p with staging := { p.staging with
      refreshInterval := v.extractLsb' 0 7, ageLimit := v.extractLsb' 16 14 } } ∧
    writes 0x18 { p with staging := { p.staging with reserve := v.extractLsb' 0 11, cap := v.extractLsb' 16 13 } } ∧
    writes 0x1C { p with staging := { p.staging with urgencyCells := v.extractLsb' 0 13 } } ∧
    writes 0x40 { p with adu := { p.adu with laStaging := { p.adu.laStaging with
      tDim := v.extractLsb' 0 16, tDeep := v.extractLsb' 16 16 } } } ∧
    writes 0x44 { p with adu := { p.adu with laStaging := { p.adu.laStaging with tDormant := v.extractLsb' 0 16 } } } ∧
    (∀ offset : BitVec 12, unmapped offset.toNat →
      exec (.faultyAccess (.read offset)) s = .next { faulty with readData := 0 } ∧
      ∀ lanes, exec (.faultyAccess (.write offset lanes v)) s = .next faulty) ∧
    (∀ offset lanes, lanes ≠ 0b1111 → exec (.faultyAccess (.write offset lanes v)) s = .next faulty) ∧
    (∀ offset : BitVec 12, readOnly offset.toNat →
      exec (.faultyAccess (.write offset 0b1111 v)) s = .next faulty ∧
      exec (.registerWrite offset v) s = .next faulty)

/-! ## Invariants -/

/-- The state after reset keeps every law (R1, R18, R68, R99, R113, R141, R154). -/
def Obligations.ResetKeepsLaws : Prop :=
  State.reset.LinkLaw ∧ State.reset.SleepLaw ∧ State.reset.GovernorLaw ∧ State.reset.QueueLaw ∧
    State.reset.PoolLaw ∧ State.reset.QuotaLaw ∧ State.reset.ArbiterLaw

/-- Every step keeps the link law: what the blocks of a port hold while its link is not UP, and what an UP link implies
(R6, R8, R45, R83, R96, R113, R120, R148, R170). -/
def Obligations.StepKeepsLinkLaw : Prop :=
  ∀ s t : State, s.LinkLaw → step s = .next t → t.LinkLaw

/-- Every step keeps the sleep law: receive state, power state, revival, PA, and the timers of PSC n and of a wake go
together, a refresh watch kept at a grant included (the model's choice, log entry 28) (R18, R20, R31, R39, R47, R49,
R63, R94). -/
def Obligations.StepKeepsSleepLaw : Prop :=
  ∀ s t : State, s.LinkLaw → s.SleepLaw → step s = .next t → t.SleepLaw

/-- Every step keeps the governor law: a live configuration that APPLY would accept, the failure counter below the
threshold, the ceiling at or below max_ceiling (R141, R154, R159); and with it the quotas of the pool (R101). -/
def Obligations.StepKeepsGovernorAndQuotaLaws : Prop :=
  ∀ s t : State, step s = .next t →
    (s.GovernorLaw → t.GovernorLaw) ∧ (s.LinkLaw → s.GovernorLaw → s.QuotaLaw → t.QuotaLaw)

/-- Every step keeps the queue law (R112, R113, R118, R157), where the free list holds the cells that an admission takes
(R99, R101), and the pool law: no cell is lost or held twice, and the memory keeps its canonical form (R99, R100). -/
def Obligations.StepKeepsQueueAndPoolLaws : Prop :=
  ∀ s t : State, s.LinkLaw → step s = .next t →
    (s.PoolLaw → s.QuotaLaw → s.QueueLaw → t.QueueLaw) ∧ (s.PoolLaw → t.PoolLaw)

/-- Every step keeps the arbiter's law: the count is the number of budgeted SELF phases, a port has one entry exactly
while it is in GRANT-WAIT, URGENT entries stand first, and entries wait only while the count is at or above W (R68, R69,
R71, R74). -/
def Obligations.StepKeepsArbiterLaw : Prop :=
  ∀ s t : State, s.LinkLaw → s.ArbiterLaw → step s = .next t → t.ArbiterLaw
end

