-- ==== Sys2Proof/Laws/State.lean ====
section
/-! SUPPORT. Laws/State.lean: one lemma per field per update of State and of Port, each true by unfolding, so that no
later proof unfolds a record update. -/

namespace Sys2Proof.Machine

variable (s : State) (p : Port) (n m : PortId)

/-! ## Ports -/

theorem State.port_def : s.port n = s.ports[n] := rfl

@[simp] theorem State.port_setPort_same (q : Port) : (s.setPort n q).port n = q := by
  simp [State.port, State.setPort]

@[simp] theorem State.port_setPort_ne {n m : PortId} (h : m ≠ n) (q : Port) :
    (s.setPort n q).port m = s.port m := by
  have h' : n.val ≠ m.val := fun e => h (Fin.ext e.symm)
  simp [State.port, State.setPort, Vector.getElem_set_ne _ _ h']

@[simp] theorem State.port_modPort_same (f : Port → Port) : (s.modPort n f).port n = f (s.port n) := by
  simp [State.modPort]

@[simp] theorem State.port_modPort_ne {n m : PortId} (h : m ≠ n) (f : Port → Port) :
    (s.modPort n f).port m = s.port m := by
  simp [State.modPort, h]

theorem State.port_modPort (f : Port → Port) :
    (s.modPort n f).port m = if m = n then f (s.port n) else s.port m := by
  by_cases h : m = n
  · subst h; simp
  · simp [h]

/-- Two states that agree at every port have the same ports. -/
theorem State.ports_ext {s t : State} (h : ∀ n, s.port n = t.port n) : s.ports = t.ports := by
  apply Vector.ext
  intro i hi
  exact h ⟨i, hi⟩

/-- Two changes of one port are one change. -/
@[simp] theorem State.modPort_modPort (f g : Port → Port) :
    (s.modPort n f).modPort n g = s.modPort n (fun p => g (f p)) := by
  have h : ((s.modPort n f).modPort n g).ports = (s.modPort n (fun p => g (f p))).ports := by
    apply State.ports_ext
    intro m
    simp only [State.port_modPort]
    by_cases h : m = n <;> simp [h]
  simpa [State.modPort, State.setPort] using h

/-- A change that leaves the port as it is leaves the state as it is. -/
theorem State.modPort_id {f : Port → Port} (h : f (s.port n) = s.port n) : s.modPort n f = s := by
  have e : (s.modPort n f).ports = s.ports := by
    apply State.ports_ext
    intro m
    rw [State.port_modPort]
    split
    · rename_i hm; rw [hm]; exact h
    · rfl
  cases s
  simpa [State.modPort, State.setPort] using e

/-- A port replaced twice holds what it was given last. -/
@[simp] theorem State.setPort_setPort (p q : Port) : (s.setPort n p).setPort n q = s.setPort n q := by
  simp [State.setPort]

/-- A change of a port just replaced. -/
@[simp] theorem State.modPort_setPort (p : Port) (f : Port → Port) :
    (s.setPort n p).modPort n f = s.setPort n (f p) := by
  simp [State.modPort]

/-- A port replaced by itself. -/
@[simp] theorem State.setPort_self : s.setPort n (s.port n) = s := by
  simpa [State.modPort] using s.modPort_id n (f := id) rfl

@[simp] theorem State.port_map (f : Port → Port) :
    ({ s with ports := s.ports.map f } : State).port n = f (s.port n) := by
  simp [State.port]

/-! ## State.setPort -/

@[simp] theorem State.setPort_wba (q : Port) : (s.setPort n q).wba = s.wba := rfl
@[simp] theorem State.setPort_pool (q : Port) : (s.setPort n q).pool = s.pool := rfl
@[simp] theorem State.setPort_dev (q : Port) : (s.setPort n q).dev = s.dev := rfl
@[simp] theorem State.setPort_now (q : Port) : (s.setPort n q).now = s.now := rfl
@[simp] theorem State.setPort_resetHeld (q : Port) : (s.setPort n q).resetHeld = s.resetHeld := rfl
@[simp] theorem State.setPort_readData (q : Port) : (s.setPort n q).readData = s.readData := rfl
@[simp] theorem State.setPort_draws (q : Port) : (s.setPort n q).draws = s.draws := rfl
@[simp] theorem State.setPort_pending (q : Port) : (s.setPort n q).pending = s.pending := rfl

/-! ## State.modPort -/

@[simp] theorem State.modPort_wba (f : Port → Port) : (s.modPort n f).wba = s.wba := rfl
@[simp] theorem State.modPort_pool (f : Port → Port) : (s.modPort n f).pool = s.pool := rfl
@[simp] theorem State.modPort_dev (f : Port → Port) : (s.modPort n f).dev = s.dev := rfl
@[simp] theorem State.modPort_now (f : Port → Port) : (s.modPort n f).now = s.now := rfl
@[simp] theorem State.modPort_resetHeld (f : Port → Port) : (s.modPort n f).resetHeld = s.resetHeld := rfl
@[simp] theorem State.modPort_readData (f : Port → Port) : (s.modPort n f).readData = s.readData := rfl
@[simp] theorem State.modPort_draws (f : Port → Port) : (s.modPort n f).draws = s.draws := rfl
@[simp] theorem State.modPort_pending (f : Port → Port) : (s.modPort n f).pending = s.pending := rfl

/-! ## State.modWba -/

@[simp] theorem State.modWba_ports (f : Wba → Wba) : (s.modWba f).ports = s.ports := rfl
@[simp] theorem State.modWba_wba (f : Wba → Wba) : (s.modWba f).wba = f s.wba := rfl
@[simp] theorem State.modWba_pool (f : Wba → Wba) : (s.modWba f).pool = s.pool := rfl
@[simp] theorem State.modWba_dev (f : Wba → Wba) : (s.modWba f).dev = s.dev := rfl
@[simp] theorem State.modWba_now (f : Wba → Wba) : (s.modWba f).now = s.now := rfl
@[simp] theorem State.modWba_resetHeld (f : Wba → Wba) : (s.modWba f).resetHeld = s.resetHeld := rfl
@[simp] theorem State.modWba_readData (f : Wba → Wba) : (s.modWba f).readData = s.readData := rfl
@[simp] theorem State.modWba_draws (f : Wba → Wba) : (s.modWba f).draws = s.draws := rfl
@[simp] theorem State.modWba_pending (f : Wba → Wba) : (s.modWba f).pending = s.pending := rfl
@[simp] theorem State.port_modWba (f : Wba → Wba) : (s.modWba f).port n = s.port n := rfl

/-! ## State.modPool -/

@[simp] theorem State.modPool_ports (f : Pool → Pool) : (s.modPool f).ports = s.ports := rfl
@[simp] theorem State.modPool_wba (f : Pool → Pool) : (s.modPool f).wba = s.wba := rfl
@[simp] theorem State.modPool_pool (f : Pool → Pool) : (s.modPool f).pool = f s.pool := rfl
@[simp] theorem State.modPool_dev (f : Pool → Pool) : (s.modPool f).dev = s.dev := rfl
@[simp] theorem State.modPool_now (f : Pool → Pool) : (s.modPool f).now = s.now := rfl
@[simp] theorem State.modPool_resetHeld (f : Pool → Pool) : (s.modPool f).resetHeld = s.resetHeld := rfl
@[simp] theorem State.modPool_readData (f : Pool → Pool) : (s.modPool f).readData = s.readData := rfl
@[simp] theorem State.modPool_draws (f : Pool → Pool) : (s.modPool f).draws = s.draws := rfl
@[simp] theorem State.modPool_pending (f : Pool → Pool) : (s.modPool f).pending = s.pending := rfl
@[simp] theorem State.port_modPool (f : Pool → Pool) : (s.modPool f).port n = s.port n := rfl

/-! ## State.modDev -/

@[simp] theorem State.modDev_ports (f : Device → Device) : (s.modDev f).ports = s.ports := rfl
@[simp] theorem State.modDev_wba (f : Device → Device) : (s.modDev f).wba = s.wba := rfl
@[simp] theorem State.modDev_pool (f : Device → Device) : (s.modDev f).pool = s.pool := rfl
@[simp] theorem State.modDev_dev (f : Device → Device) : (s.modDev f).dev = f s.dev := rfl
@[simp] theorem State.modDev_now (f : Device → Device) : (s.modDev f).now = s.now := rfl
@[simp] theorem State.modDev_resetHeld (f : Device → Device) : (s.modDev f).resetHeld = s.resetHeld := rfl
@[simp] theorem State.modDev_readData (f : Device → Device) : (s.modDev f).readData = s.readData := rfl
@[simp] theorem State.modDev_draws (f : Device → Device) : (s.modDev f).draws = s.draws := rfl
@[simp] theorem State.modDev_pending (f : Device → Device) : (s.modDev f).pending = s.pending := rfl
@[simp] theorem State.port_modDev (f : Device → Device) : (s.modDev f).port n = s.port n := rfl

/-! ## State.reach -/

@[simp] theorem State.reach_ports (t : Nat) : (s.reach t).ports = s.ports := rfl
@[simp] theorem State.reach_wba (t : Nat) : (s.reach t).wba = s.wba := rfl
@[simp] theorem State.reach_pool (t : Nat) : (s.reach t).pool = s.pool := rfl
@[simp] theorem State.reach_dev (t : Nat) : (s.reach t).dev = s.dev := rfl
@[simp] theorem State.reach_now (t : Nat) : (s.reach t).now = max s.now t := rfl
@[simp] theorem State.reach_resetHeld (t : Nat) : (s.reach t).resetHeld = s.resetHeld := rfl
@[simp] theorem State.reach_readData (t : Nat) : (s.reach t).readData = s.readData := rfl
@[simp] theorem State.reach_draws (t : Nat) : (s.reach t).draws = s.draws := rfl
@[simp] theorem State.reach_pending (t : Nat) : (s.reach t).pending = s.pending := rfl
@[simp] theorem State.port_reach (t : Nat) : (s.reach t).port n = s.port n := rfl

/-! ## State.drawn -/

@[simp] theorem State.drawn_ports : s.drawn.ports = s.ports := rfl
@[simp] theorem State.drawn_wba : s.drawn.wba = s.wba := rfl
@[simp] theorem State.drawn_pool : s.drawn.pool = s.pool := rfl
@[simp] theorem State.drawn_dev : s.drawn.dev = s.dev := rfl
@[simp] theorem State.drawn_now : s.drawn.now = s.now := rfl
@[simp] theorem State.drawn_resetHeld : s.drawn.resetHeld = s.resetHeld := rfl
@[simp] theorem State.drawn_readData : s.drawn.readData = s.readData := rfl
@[simp] theorem State.drawn_pending : s.drawn.pending = s.pending := rfl
@[simp] theorem State.drawn_draws : s.drawn.draws = s.draws + 1 := rfl
@[simp] theorem State.port_drawn : s.drawn.port n = s.port n := rfl

/-! ## Port.emit -/

@[simp] theorem Port.emit_lpe (o : List LineTx) : (p.emit o).lpe = p.lpe := rfl
@[simp] theorem Port.emit_psc (o : List LineTx) : (p.emit o).psc = p.psc := rfl
@[simp] theorem Port.emit_adu (o : List LineTx) : (p.emit o).adu = p.adu := rfl
@[simp] theorem Port.emit_txq (o : List LineTx) : (p.emit o).txq = p.txq := rfl
@[simp] theorem Port.emit_ssp (o : List LineTx) : (p.emit o).ssp = p.ssp := rfl
@[simp] theorem Port.emit_dgv (o : List LineTx) : (p.emit o).dgv = p.dgv := rfl
@[simp] theorem Port.emit_staging (o : List LineTx) : (p.emit o).staging = p.staging := rfl
@[simp] theorem Port.emit_cfg (o : List LineTx) : (p.emit o).cfg = p.cfg := rfl
@[simp] theorem Port.emit_slot (o : List LineTx) : (p.emit o).slot = p.slot := rfl
@[simp] theorem Port.emit_counters (o : List LineTx) : (p.emit o).counters = p.counters := rfl
@[simp] theorem Port.emit_flags (o : List LineTx) : (p.emit o).flags = p.flags := rfl
@[simp] theorem Port.emit_enables (o : List LineTx) : (p.emit o).enables = p.enables := rfl
@[simp] theorem Port.emit_lineOut (o : List LineTx) : (p.emit o).lineOut = p.lineOut ++ o := rfl
@[simp] theorem Port.emit_egressOut (o : List LineTx) : (p.emit o).egressOut = p.egressOut := rfl

/-! ## Port.deliver -/

@[simp] theorem Port.deliver_lpe (o : List EgressTx) : (p.deliver o).lpe = p.lpe := rfl
@[simp] theorem Port.deliver_psc (o : List EgressTx) : (p.deliver o).psc = p.psc := rfl
@[simp] theorem Port.deliver_adu (o : List EgressTx) : (p.deliver o).adu = p.adu := rfl
@[simp] theorem Port.deliver_txq (o : List EgressTx) : (p.deliver o).txq = p.txq := rfl
@[simp] theorem Port.deliver_ssp (o : List EgressTx) : (p.deliver o).ssp = p.ssp := rfl
@[simp] theorem Port.deliver_dgv (o : List EgressTx) : (p.deliver o).dgv = p.dgv := rfl
@[simp] theorem Port.deliver_staging (o : List EgressTx) : (p.deliver o).staging = p.staging := rfl
@[simp] theorem Port.deliver_cfg (o : List EgressTx) : (p.deliver o).cfg = p.cfg := rfl
@[simp] theorem Port.deliver_slot (o : List EgressTx) : (p.deliver o).slot = p.slot := rfl
@[simp] theorem Port.deliver_counters (o : List EgressTx) : (p.deliver o).counters = p.counters := rfl
@[simp] theorem Port.deliver_flags (o : List EgressTx) : (p.deliver o).flags = p.flags := rfl
@[simp] theorem Port.deliver_enables (o : List EgressTx) : (p.deliver o).enables = p.enables := rfl
@[simp] theorem Port.deliver_lineOut (o : List EgressTx) : (p.deliver o).lineOut = p.lineOut := rfl
@[simp] theorem Port.deliver_egressOut (o : List EgressTx) : (p.deliver o).egressOut = p.egressOut ++ o := rfl

/-! ## Port.count -/

@[simp] theorem Port.count_lpe (c : Counter) : (p.count c).lpe = p.lpe := rfl
@[simp] theorem Port.count_psc (c : Counter) : (p.count c).psc = p.psc := rfl
@[simp] theorem Port.count_adu (c : Counter) : (p.count c).adu = p.adu := rfl
@[simp] theorem Port.count_txq (c : Counter) : (p.count c).txq = p.txq := rfl
@[simp] theorem Port.count_ssp (c : Counter) : (p.count c).ssp = p.ssp := rfl
@[simp] theorem Port.count_dgv (c : Counter) : (p.count c).dgv = p.dgv := rfl
@[simp] theorem Port.count_staging (c : Counter) : (p.count c).staging = p.staging := rfl
@[simp] theorem Port.count_cfg (c : Counter) : (p.count c).cfg = p.cfg := rfl
@[simp] theorem Port.count_slot (c : Counter) : (p.count c).slot = p.slot := rfl
@[simp] theorem Port.count_counters (c : Counter) : (p.count c).counters = p.counters.bump c := rfl
@[simp] theorem Port.count_flags (c : Counter) : (p.count c).flags = p.flags := rfl
@[simp] theorem Port.count_enables (c : Counter) : (p.count c).enables = p.enables := rfl
@[simp] theorem Port.count_lineOut (c : Counter) : (p.count c).lineOut = p.lineOut := rfl
@[simp] theorem Port.count_egressOut (c : Counter) : (p.count c).egressOut = p.egressOut := rfl

/-! ## Port.raise -/

@[simp] theorem Port.raise_lpe (f : PortFlag) : (p.raise f).lpe = p.lpe := rfl
@[simp] theorem Port.raise_psc (f : PortFlag) : (p.raise f).psc = p.psc := rfl
@[simp] theorem Port.raise_adu (f : PortFlag) : (p.raise f).adu = p.adu := rfl
@[simp] theorem Port.raise_txq (f : PortFlag) : (p.raise f).txq = p.txq := rfl
@[simp] theorem Port.raise_ssp (f : PortFlag) : (p.raise f).ssp = p.ssp := rfl
@[simp] theorem Port.raise_dgv (f : PortFlag) : (p.raise f).dgv = p.dgv := rfl
@[simp] theorem Port.raise_staging (f : PortFlag) : (p.raise f).staging = p.staging := rfl
@[simp] theorem Port.raise_cfg (f : PortFlag) : (p.raise f).cfg = p.cfg := rfl
@[simp] theorem Port.raise_slot (f : PortFlag) : (p.raise f).slot = p.slot := rfl
@[simp] theorem Port.raise_counters (f : PortFlag) : (p.raise f).counters = p.counters := rfl
@[simp] theorem Port.raise_flags (f : PortFlag) : (p.raise f).flags = p.flags ||| BitVec.twoPow 11 f.bit := rfl
@[simp] theorem Port.raise_enables (f : PortFlag) : (p.raise f).enables = p.enables := rfl
@[simp] theorem Port.raise_lineOut (f : PortFlag) : (p.raise f).lineOut = p.lineOut := rfl
@[simp] theorem Port.raise_egressOut (f : PortFlag) : (p.raise f).egressOut = p.egressOut := rfl

/-! ## Port.discard -/

@[simp] theorem Port.discard_lpe (c : Counter) : (p.discard c).lpe = p.lpe := rfl
@[simp] theorem Port.discard_psc (c : Counter) : (p.discard c).psc = p.psc := rfl
@[simp] theorem Port.discard_adu (c : Counter) : (p.discard c).adu = p.adu := rfl
@[simp] theorem Port.discard_txq (c : Counter) : (p.discard c).txq = p.txq := rfl
@[simp] theorem Port.discard_ssp (c : Counter) : (p.discard c).ssp = p.ssp := rfl
@[simp] theorem Port.discard_dgv (c : Counter) : (p.discard c).dgv = p.dgv := rfl
@[simp] theorem Port.discard_staging (c : Counter) : (p.discard c).staging = p.staging := rfl
@[simp] theorem Port.discard_cfg (c : Counter) : (p.discard c).cfg = p.cfg := rfl
@[simp] theorem Port.discard_slot (c : Counter) : (p.discard c).slot = p.slot := rfl
@[simp] theorem Port.discard_counters (c : Counter) : (p.discard c).counters = p.counters.bump c := rfl
@[simp] theorem Port.discard_flags (c : Counter) : (p.discard c).flags = p.flags ||| BitVec.twoPow 11 PortFlag.discard.bit := rfl
@[simp] theorem Port.discard_enables (c : Counter) : (p.discard c).enables = p.enables := rfl
@[simp] theorem Port.discard_lineOut (c : Counter) : (p.discard c).lineOut = p.lineOut := rfl
@[simp] theorem Port.discard_egressOut (c : Counter) : (p.discard c).egressOut = p.egressOut := rfl

/-! ## Port.setTx -/

@[simp] theorem Port.setTx_lpe (t : Transmitter) : (p.setTx t).lpe = { p.lpe with tx := t } := rfl
@[simp] theorem Port.setTx_psc (t : Transmitter) : (p.setTx t).psc = p.psc := rfl
@[simp] theorem Port.setTx_adu (t : Transmitter) : (p.setTx t).adu = p.adu := rfl
@[simp] theorem Port.setTx_txq (t : Transmitter) : (p.setTx t).txq = p.txq := rfl
@[simp] theorem Port.setTx_ssp (t : Transmitter) : (p.setTx t).ssp = p.ssp := rfl
@[simp] theorem Port.setTx_dgv (t : Transmitter) : (p.setTx t).dgv = p.dgv := rfl
@[simp] theorem Port.setTx_staging (t : Transmitter) : (p.setTx t).staging = p.staging := rfl
@[simp] theorem Port.setTx_cfg (t : Transmitter) : (p.setTx t).cfg = p.cfg := rfl
@[simp] theorem Port.setTx_slot (t : Transmitter) : (p.setTx t).slot = p.slot := rfl
@[simp] theorem Port.setTx_counters (t : Transmitter) : (p.setTx t).counters = p.counters := rfl
@[simp] theorem Port.setTx_flags (t : Transmitter) : (p.setTx t).flags = p.flags := rfl
@[simp] theorem Port.setTx_enables (t : Transmitter) : (p.setTx t).enables = p.enables := rfl
@[simp] theorem Port.setTx_lineOut (t : Transmitter) : (p.setTx t).lineOut = p.lineOut := rfl
@[simp] theorem Port.setTx_egressOut (t : Transmitter) : (p.setTx t).egressOut = p.egressOut := rfl

/-! ## Port.setFill -/

@[simp] theorem Port.setFill_lpe (f : Option Fill) : (p.setFill f).lpe = { p.lpe with lastFill := f } := rfl
@[simp] theorem Port.setFill_psc (f : Option Fill) : (p.setFill f).psc = p.psc := rfl
@[simp] theorem Port.setFill_adu (f : Option Fill) : (p.setFill f).adu = p.adu := rfl
@[simp] theorem Port.setFill_txq (f : Option Fill) : (p.setFill f).txq = p.txq := rfl
@[simp] theorem Port.setFill_ssp (f : Option Fill) : (p.setFill f).ssp = p.ssp := rfl
@[simp] theorem Port.setFill_dgv (f : Option Fill) : (p.setFill f).dgv = p.dgv := rfl
@[simp] theorem Port.setFill_staging (f : Option Fill) : (p.setFill f).staging = p.staging := rfl
@[simp] theorem Port.setFill_cfg (f : Option Fill) : (p.setFill f).cfg = p.cfg := rfl
@[simp] theorem Port.setFill_slot (f : Option Fill) : (p.setFill f).slot = p.slot := rfl
@[simp] theorem Port.setFill_counters (f : Option Fill) : (p.setFill f).counters = p.counters := rfl
@[simp] theorem Port.setFill_flags (f : Option Fill) : (p.setFill f).flags = p.flags := rfl
@[simp] theorem Port.setFill_enables (f : Option Fill) : (p.setFill f).enables = p.enables := rfl
@[simp] theorem Port.setFill_lineOut (f : Option Fill) : (p.setFill f).lineOut = p.lineOut := rfl
@[simp] theorem Port.setFill_egressOut (f : Option Fill) : (p.setFill f).egressOut = p.egressOut := rfl

/-! ## Port.setSignal -/

@[simp] theorem Port.setSignal_lpe (b : Bool) : (p.setSignal b).lpe = { p.lpe with signal := b } := rfl
@[simp] theorem Port.setSignal_psc (b : Bool) : (p.setSignal b).psc = p.psc := rfl
@[simp] theorem Port.setSignal_adu (b : Bool) : (p.setSignal b).adu = p.adu := rfl
@[simp] theorem Port.setSignal_txq (b : Bool) : (p.setSignal b).txq = p.txq := rfl
@[simp] theorem Port.setSignal_ssp (b : Bool) : (p.setSignal b).ssp = p.ssp := rfl
@[simp] theorem Port.setSignal_dgv (b : Bool) : (p.setSignal b).dgv = p.dgv := rfl
@[simp] theorem Port.setSignal_staging (b : Bool) : (p.setSignal b).staging = p.staging := rfl
@[simp] theorem Port.setSignal_cfg (b : Bool) : (p.setSignal b).cfg = p.cfg := rfl
@[simp] theorem Port.setSignal_slot (b : Bool) : (p.setSignal b).slot = p.slot := rfl
@[simp] theorem Port.setSignal_counters (b : Bool) : (p.setSignal b).counters = p.counters := rfl
@[simp] theorem Port.setSignal_flags (b : Bool) : (p.setSignal b).flags = p.flags := rfl
@[simp] theorem Port.setSignal_enables (b : Bool) : (p.setSignal b).enables = p.enables := rfl
@[simp] theorem Port.setSignal_lineOut (b : Bool) : (p.setSignal b).lineOut = p.lineOut := rfl
@[simp] theorem Port.setSignal_egressOut (b : Bool) : (p.setSignal b).egressOut = p.egressOut := rfl

/-! ## Port.setRx -/

@[simp] theorem Port.setRx_lpe (r : Option RxFrame) : (p.setRx r).lpe = p.lpe := rfl
@[simp] theorem Port.setRx_psc (r : Option RxFrame) : (p.setRx r).psc = p.psc := rfl
@[simp] theorem Port.setRx_adu (r : Option RxFrame) : (p.setRx r).adu = p.adu := rfl
@[simp] theorem Port.setRx_txq (r : Option RxFrame) : (p.setRx r).txq = p.txq := rfl
@[simp] theorem Port.setRx_ssp (r : Option RxFrame) : (p.setRx r).ssp = { p.ssp with rx := r } := rfl
@[simp] theorem Port.setRx_dgv (r : Option RxFrame) : (p.setRx r).dgv = p.dgv := rfl
@[simp] theorem Port.setRx_staging (r : Option RxFrame) : (p.setRx r).staging = p.staging := rfl
@[simp] theorem Port.setRx_cfg (r : Option RxFrame) : (p.setRx r).cfg = p.cfg := rfl
@[simp] theorem Port.setRx_slot (r : Option RxFrame) : (p.setRx r).slot = p.slot := rfl
@[simp] theorem Port.setRx_counters (r : Option RxFrame) : (p.setRx r).counters = p.counters := rfl
@[simp] theorem Port.setRx_flags (r : Option RxFrame) : (p.setRx r).flags = p.flags := rfl
@[simp] theorem Port.setRx_enables (r : Option RxFrame) : (p.setRx r).enables = p.enables := rfl
@[simp] theorem Port.setRx_lineOut (r : Option RxFrame) : (p.setRx r).lineOut = p.lineOut := rfl
@[simp] theorem Port.setRx_egressOut (r : Option RxFrame) : (p.setRx r).egressOut = p.egressOut := rfl

/-! ## Port.setIngress -/

@[simp] theorem Port.setIngress_lpe (g : Option Ingress) : (p.setIngress g).lpe = p.lpe := rfl
@[simp] theorem Port.setIngress_psc (g : Option Ingress) : (p.setIngress g).psc = p.psc := rfl
@[simp] theorem Port.setIngress_adu (g : Option Ingress) : (p.setIngress g).adu = p.adu := rfl
@[simp] theorem Port.setIngress_txq (g : Option Ingress) : (p.setIngress g).txq = p.txq := rfl
@[simp] theorem Port.setIngress_ssp (g : Option Ingress) : (p.setIngress g).ssp = { p.ssp with ingress := g } := rfl
@[simp] theorem Port.setIngress_dgv (g : Option Ingress) : (p.setIngress g).dgv = p.dgv := rfl
@[simp] theorem Port.setIngress_staging (g : Option Ingress) : (p.setIngress g).staging = p.staging := rfl
@[simp] theorem Port.setIngress_cfg (g : Option Ingress) : (p.setIngress g).cfg = p.cfg := rfl
@[simp] theorem Port.setIngress_slot (g : Option Ingress) : (p.setIngress g).slot = p.slot := rfl
@[simp] theorem Port.setIngress_counters (g : Option Ingress) : (p.setIngress g).counters = p.counters := rfl
@[simp] theorem Port.setIngress_flags (g : Option Ingress) : (p.setIngress g).flags = p.flags := rfl
@[simp] theorem Port.setIngress_enables (g : Option Ingress) : (p.setIngress g).enables = p.enables := rfl
@[simp] theorem Port.setIngress_lineOut (g : Option Ingress) : (p.setIngress g).lineOut = p.lineOut := rfl
@[simp] theorem Port.setIngress_egressOut (g : Option Ingress) : (p.setIngress g).egressOut = p.egressOut := rfl

/-! ## Port.setPs -/

@[simp] theorem Port.setPs_lpe (x : PS) : (p.setPs x).lpe = p.lpe := rfl
@[simp] theorem Port.setPs_psc (x : PS) : (p.setPs x).psc = { p.psc with ps := x } := rfl
@[simp] theorem Port.setPs_adu (x : PS) : (p.setPs x).adu = p.adu := rfl
@[simp] theorem Port.setPs_txq (x : PS) : (p.setPs x).txq = p.txq := rfl
@[simp] theorem Port.setPs_ssp (x : PS) : (p.setPs x).ssp = p.ssp := rfl
@[simp] theorem Port.setPs_dgv (x : PS) : (p.setPs x).dgv = p.dgv := rfl
@[simp] theorem Port.setPs_staging (x : PS) : (p.setPs x).staging = p.staging := rfl
@[simp] theorem Port.setPs_cfg (x : PS) : (p.setPs x).cfg = p.cfg := rfl
@[simp] theorem Port.setPs_slot (x : PS) : (p.setPs x).slot = p.slot := rfl
@[simp] theorem Port.setPs_counters (x : PS) : (p.setPs x).counters = p.counters := rfl
@[simp] theorem Port.setPs_flags (x : PS) : (p.setPs x).flags = p.flags := rfl
@[simp] theorem Port.setPs_enables (x : PS) : (p.setPs x).enables = p.enables := rfl
@[simp] theorem Port.setPs_lineOut (x : PS) : (p.setPs x).lineOut = p.lineOut := rfl
@[simp] theorem Port.setPs_egressOut (x : PS) : (p.setPs x).egressOut = p.egressOut := rfl

/-! ## Port.setRs -/

@[simp] theorem Port.setRs_lpe (x : RS) : (p.setRs x).lpe = p.lpe := rfl
@[simp] theorem Port.setRs_psc (x : RS) : (p.setRs x).psc = { p.psc with rs := x } := rfl
@[simp] theorem Port.setRs_adu (x : RS) : (p.setRs x).adu = p.adu := rfl
@[simp] theorem Port.setRs_txq (x : RS) : (p.setRs x).txq = p.txq := rfl
@[simp] theorem Port.setRs_ssp (x : RS) : (p.setRs x).ssp = p.ssp := rfl
@[simp] theorem Port.setRs_dgv (x : RS) : (p.setRs x).dgv = p.dgv := rfl
@[simp] theorem Port.setRs_staging (x : RS) : (p.setRs x).staging = p.staging := rfl
@[simp] theorem Port.setRs_cfg (x : RS) : (p.setRs x).cfg = p.cfg := rfl
@[simp] theorem Port.setRs_slot (x : RS) : (p.setRs x).slot = p.slot := rfl
@[simp] theorem Port.setRs_counters (x : RS) : (p.setRs x).counters = p.counters := rfl
@[simp] theorem Port.setRs_flags (x : RS) : (p.setRs x).flags = p.flags := rfl
@[simp] theorem Port.setRs_enables (x : RS) : (p.setRs x).enables = p.enables := rfl
@[simp] theorem Port.setRs_lineOut (x : RS) : (p.setRs x).lineOut = p.lineOut := rfl
@[simp] theorem Port.setRs_egressOut (x : RS) : (p.setRs x).egressOut = p.egressOut := rfl

/-! ## Port.setOffer -/

@[simp] theorem Port.setOffer_lpe (o : Option PartnerOffer) : (p.setOffer o).lpe = p.lpe := rfl
@[simp] theorem Port.setOffer_psc (o : Option PartnerOffer) : (p.setOffer o).psc = { p.psc with offer := o } := rfl
@[simp] theorem Port.setOffer_adu (o : Option PartnerOffer) : (p.setOffer o).adu = p.adu := rfl
@[simp] theorem Port.setOffer_txq (o : Option PartnerOffer) : (p.setOffer o).txq = p.txq := rfl
@[simp] theorem Port.setOffer_ssp (o : Option PartnerOffer) : (p.setOffer o).ssp = p.ssp := rfl
@[simp] theorem Port.setOffer_dgv (o : Option PartnerOffer) : (p.setOffer o).dgv = p.dgv := rfl
@[simp] theorem Port.setOffer_staging (o : Option PartnerOffer) : (p.setOffer o).staging = p.staging := rfl
@[simp] theorem Port.setOffer_cfg (o : Option PartnerOffer) : (p.setOffer o).cfg = p.cfg := rfl
@[simp] theorem Port.setOffer_slot (o : Option PartnerOffer) : (p.setOffer o).slot = p.slot := rfl
@[simp] theorem Port.setOffer_counters (o : Option PartnerOffer) : (p.setOffer o).counters = p.counters := rfl
@[simp] theorem Port.setOffer_flags (o : Option PartnerOffer) : (p.setOffer o).flags = p.flags := rfl
@[simp] theorem Port.setOffer_enables (o : Option PartnerOffer) : (p.setOffer o).enables = p.enables := rfl
@[simp] theorem Port.setOffer_lineOut (o : Option PartnerOffer) : (p.setOffer o).lineOut = p.lineOut := rfl
@[simp] theorem Port.setOffer_egressOut (o : Option PartnerOffer) : (p.setOffer o).egressOut = p.egressOut := rfl

/-! ## Port.say (R10) -/

/-- While the link is UP a one-shot word is put on the line; in any other link state nothing happens. -/
theorem Port.say_of_up {p : Port} (h : p.lpe.link = .up) (w : OneShot) : p.say w = p.emit [.word w] := by
  simp [Port.say, h]

@[simp] theorem Port.say_lpe (w : OneShot) : (p.say w).lpe = p.lpe := by unfold Port.say; split <;> rfl
@[simp] theorem Port.say_psc (w : OneShot) : (p.say w).psc = p.psc := by unfold Port.say; split <;> rfl
@[simp] theorem Port.say_adu (w : OneShot) : (p.say w).adu = p.adu := by unfold Port.say; split <;> rfl
@[simp] theorem Port.say_txq (w : OneShot) : (p.say w).txq = p.txq := by unfold Port.say; split <;> rfl
@[simp] theorem Port.say_ssp (w : OneShot) : (p.say w).ssp = p.ssp := by unfold Port.say; split <;> rfl
@[simp] theorem Port.say_dgv (w : OneShot) : (p.say w).dgv = p.dgv := by unfold Port.say; split <;> rfl
@[simp] theorem Port.say_staging (w : OneShot) : (p.say w).staging = p.staging := by unfold Port.say; split <;> rfl
@[simp] theorem Port.say_cfg (w : OneShot) : (p.say w).cfg = p.cfg := by unfold Port.say; split <;> rfl
@[simp] theorem Port.say_slot (w : OneShot) : (p.say w).slot = p.slot := by unfold Port.say; split <;> rfl
@[simp] theorem Port.say_counters (w : OneShot) : (p.say w).counters = p.counters := by unfold Port.say; split <;> rfl
@[simp] theorem Port.say_flags (w : OneShot) : (p.say w).flags = p.flags := by unfold Port.say; split <;> rfl
@[simp] theorem Port.say_enables (w : OneShot) : (p.say w).enables = p.enables := by unfold Port.say; split <;> rfl
@[simp] theorem Port.say_egressOut (w : OneShot) : (p.say w).egressOut = p.egressOut := by unfold Port.say; split <;> rfl

end Sys2Proof.Machine
end

