-- ==== Sys2Proof/Laws/Ops.lean ====
section
/-! SUPPORT. Laws/Ops.lean: for each shared operation, what it can do, said once: the counters, the test of the grant
condition, the selection, the wake cause, the withdrawal, and what none of them touches. -/

namespace Sys2Proof.Machine

/-! ## Counters -/

/-- One event more is what a counter counts (R172). -/
theorem satInc_eq_satAdd (c : BitVec 32) : satInc c = satAdd c 1 := by
  have h := c.isLt
  unfold satInc satAdd
  split
  · subst_vars; decide
  · rename_i hne
    have hne' : c.toNat ≠ 4294967295 := fun e => hne (BitVec.eq_of_toNat_eq (by simpa using e))
    apply BitVec.eq_of_toNat_eq
    simp [BitVec.toNat_add]
    omega

@[simp] theorem satAdd_zero (c : BitVec 32) : satAdd c 0 = c := by
  have h := c.isLt
  apply BitVec.eq_of_toNat_eq
  simp [satAdd]
  omega

theorem satAdd_toNat (c : BitVec 32) (k : Nat) : (satAdd c k).toNat = min (c.toNat + k) 4294967295 := by
  simp [satAdd]

/-- Counting twice is counting the sum. -/
@[simp] theorem satAdd_satAdd (c : BitVec 32) (j k : Nat) : satAdd (satAdd c j) k = satAdd c (j + k) := by
  apply BitVec.eq_of_toNat_eq
  simp only [satAdd_toNat]; omega

/-- A flag already in a mask stays: setting it again changes nothing. -/
theorem flag_or_self (a b : BitVec 11) : a ||| b ||| b = a ||| b := by
  rw [BitVec.or_assoc, BitVec.or_self]

/-- `k` counted discards: the counter rises by k, and DISCARD is set where there was one (R172, R174). -/
theorem Port.discards_eq (k : Nat) (p : Port) :
    Port.discards .discLinkdown k p = { p with
      counters := { p.counters with discLinkdown := satAdd p.counters.discLinkdown k }
      flags := if k = 0 then p.flags else p.flags ||| BitVec.twoPow 11 8 } := by
  induction k generalizing p with
  | zero => simp [Port.discards]
  | succ k ih =>
    rw [Port.discards, ih]
    simp only [Port.discard, Port.count, Port.raise, Counters.bump, satInc_eq_satAdd, satAdd_satAdd, PortFlag.bit]
    split
    · subst_vars; simp
    · simp [flag_or_self, Nat.add_comm]

/-- What one count does to each counter (R171, R172). -/
theorem Counters.get_bump (c i : Counter) (k : Counters) :
    (k.bump c).get i = if i = c then satAdd (k.get i) 1 else k.get i := by
  cases c <;> cases i <;> simp [Counters.bump, Counters.get, satInc_eq_satAdd]

/-- A timer that has been reached is the timer where it is due. -/
theorem reached_eq (now : Nat) (timer : Option Nat) : reached now timer = if isDue now timer = true then timer else none := by
  cases timer <;> simp [reached, isDue, Option.filter]

/-- A timer is due exactly where the time base has reached its expiry. -/
theorem isDue_iff (now : Nat) (timer : Option Nat) : isDue now timer = true ↔ ∃ x, timer = some x ∧ x ≤ now := by
  cases timer <;> simp [isDue]

/-! ## Depths and records -/

theorem JointDepth.selfWake_toSleep (d : JointDepth) : d.toSleep.selfWake = if d = .deep then 40 else 1500 := by
  cases d <;> rfl

theorem JointDepth.toSleep_ne_dim (d : JointDepth) : d.toSleep ≠ .dim := by cases d <;> decide

theorem Psc.hasOffer_iff (c : Psc) (d : JointDepth) :
    c.hasOffer d = true ↔ ∃ o, c.offer = some o ∧ o.depth = d := by
  unfold Psc.hasOffer
  cases c.offer <;> simp

theorem PS.holdsUnit_iff (x : PS) :
    x.holdsUnit = true ↔ ∃ w, x = .waking w ∧ w.budgeted = true ∧ w.phase = .self := by
  cases x <;> simp [PS.holdsUnit]

/-- A grant at a port that is not in GRANT-WAIT leaves the port as it is. -/
theorem Port.takeGrant_of_not_waiting {p : Port} (h : p.psc.ps.isGrantWait = false) (now : Nat) :
    p.takeGrant now = p := by
  unfold Port.takeGrant
  split
  · rename_i r hr; rw [hr] at h; exact absurd h (by simp [PS.isGrantWait])
  · rfl

/-- A LOCAL wake begins (R47, R48). -/
theorem Port.beginLocal_eq (now : Nat) (d w : SleepDepth) (b : Bool) (p : Port) :
    p.beginLocal now d w b = { p with
      psc := inWake p.psc (newWake .localEnd d w b (d == .dim && p.psc.revivedByAlr) now d.selfWake)
      counters := { p.counters with wakesLocal := satAdd p.counters.wakesLocal 1 } } := by
  simp [Port.beginLocal, Port.count, Counters.bump, satInc_eq_satAdd, inWake, newWake, Psc.stopTimers, after]

/-- A PARTNER wake begins (R49). -/
theorem Port.beginPartner_eq (now : Nat) (d : JointDepth) (p : Port) :
    p.beginPartner now d = { p with
      psc := inWake p.psc (newWake .partner d.toSleep d.toSleep true false now d.toSleep.selfWake)
      counters := { p.counters with wakesPartner := satAdd p.counters.wakesPartner 1 } } := by
  simp [Port.beginPartner, Port.count, Counters.bump, satInc_eq_satAdd, inWake, newWake, Psc.stopTimers, after]

/-- The grant at a port in GRANT-WAIT (R42, R48, R75). -/
theorem Port.takeGrant_of_waiting {p : Port} {r : GrantWait} (h : p.psc.ps = .grantWait r) (now : Nat) :
    p.takeGrant now =
      let wait := if ∃ o, p.psc.offer = some o ∧ o.depth = .dormant then JointDepth.dormant else r.waitDepth
      { p with
        psc := { inWake p.psc (newWake .localEnd r.fromDepth.toSleep wait.toSleep true false now
                   (if r.fromDepth = .deep then 40 else 1500)) with
          refreshWatch := p.psc.refreshWatch.filter fun x => x ≤ now }
        counters := { p.counters with wakesLocal := satAdd p.counters.wakesLocal 1 } } := by
  have hd : (r.fromDepth.toSleep == SleepDepth.dim && p.psc.revivedByAlr) = false := by cases r.fromDepth <;> rfl
  simp only [Port.takeGrant, h, Psc.hasOffer_iff, Port.beginLocal_eq, JointDepth.selfWake_toSleep, hd, reached]

/-! ## The test of the grant condition -/

/-- At most `k` grants make the grants of the test where no more than `k` entries wait (R74). -/
theorem grantLoop_grants (k : Nat) (s : State) (hk : s.wba.queue.length ≤ k) : Grants s (grantLoop k s) := by
  induction k generalizing s with
  | zero => exact .stop s (.inr (List.length_eq_zero_iff.mp (by omega)))
  | succ k ih =>
    rw [grantLoop]
    by_cases hc : s.wba.count < s.wba.w
    · rw [if_pos hc]
      cases hq : s.wba.queue with
      | nil => exact .stop s (.inr hq)
      | cons e rest =>
        have hl : rest.length ≤ k := by rw [hq] at hk; simpa using hk
        have hi := ih (s.grantEntry e rest) (by simpa [State.grantEntry] using hl)
        cases hw : (s.port e.port).psc.ps.isGrantWait with
        | false =>
          refine .skip s _ e rest hc hq hw ?_
          have same : s.grantEntry e rest = s.modWba fun b => { b with count := b.count + 1, queue := rest } := by
            simp only [State.grantEntry, State.modPort, Port.takeGrant_of_not_waiting, hw, State.port_modWba]
            exact State.setPort_self (s.modWba fun b => { b with count := b.count + 1, queue := rest }) e.port
          change Grants _ (grantLoop k (s.grantEntry e rest))
          rw [same] at hi ⊢
          exact hi
        | true =>
          obtain ⟨r, hr⟩ : ∃ r, (s.port e.port).psc.ps = .grantWait r := by
            cases h : (s.port e.port).psc.ps <;> simp [h, PS.isGrantWait] at hw ⊢
          refine .grant s _ e rest r hc hq hr ?_
          have same : s.grantEntry e rest =
              (s.modWba fun b => { b with count := b.count + 1, queue := rest }).setPort e.port
                ((s.port e.port).takeGrant s.now) := by simp [State.grantEntry, State.modPort]
          change Grants _ (grantLoop k (s.grantEntry e rest))
          rw [same, Port.takeGrant_of_waiting hr] at hi ⊢
          exact hi
    · rw [if_neg hc]
      exact .stop s (.inl (by omega))

/-- The test of the grant condition makes its grants (R74). -/
theorem State.testGrant_grants (s : State) : Grants s s.testGrant := grantLoop_grants _ s le_rfl

/-! ## Leaving UP, part by part -/

/-- The frame in flight abandoned (R6, R120). -/
theorem Port.abandonTx_eq (p : Port) : p.abandonTx = { p with
    lpe := { p.lpe with tx := .idle }
    lineOut := p.lineOut ++ (if p.lpe.tx = .idle then [] else [.truncated])
    counters := { p.counters with
      discLinkdown := satAdd p.counters.discLinkdown (uncounted p.lpe.tx).toNat }
    flags := p.flags ||| (if uncounted p.lpe.tx = true then BitVec.twoPow 11 8 else 0) } := by
  obtain ⟨⟨_, _, _, tx, _, _⟩, _, _, _, _, _, _, _, _, _, _, _, _, _⟩ := p
  cases tx with
  | idle => simp [Port.abandonTx, uncounted]
  | busy kind check =>
    cases kind with
    | bypass e =>
      cases e <;> simp [Port.abandonTx, uncounted, Port.discard, Port.raise, Port.count, Counters.bump,
        satInc_eq_satAdd, PortFlag.bit, Port.setTx, Port.emit]
    | queued => simp [Port.abandonTx, uncounted, Port.setTx, Port.emit]
    | advert _ => simp [Port.abandonTx, uncounted, Port.setTx, Port.emit]
    | echo => simp [Port.abandonTx, uncounted, Port.setTx, Port.emit]

/-- The frame being received ended with a line error (R13, R16). -/
theorem Port.breakRx_eq (p : Port) : p.breakRx = { p with
    ssp := { p.ssp with rx := none }
    egressOut := p.egressOut ++ cutWords p.ssp.rx
    counters := { p.counters with
      rxErr := satAdd p.counters.rxErr (delivering p.ssp.rx).toNat
      mgmtDiscard := satAdd p.counters.mgmtDiscard (if p.ssp.rx = some .management then 1 else 0) } } := by
  obtain ⟨_, _, _, _, ⟨_, rx⟩, _, _, _, _, _, _, _, _, _⟩ := p
  rcases rx with _ | (⟨_ | _, _, _⟩ | _ | _) <;>
    simp [Port.breakRx, Port.closeWithError, closingWords, cutWords, delivering, Port.count, Counters.bump,
      satInc_eq_satAdd, Port.setRx, Port.deliver]

/-- The frame being received cut off because its rest is not observed (R16). -/
theorem Port.cutRx_eq (p : Port) : p.cutRx = { p with
    ssp := { p.ssp with rx := none }
    egressOut := p.egressOut ++ cutWords p.ssp.rx
    counters := { p.counters with rxErr := satAdd p.counters.rxErr (delivering p.ssp.rx).toNat } } := by
  obtain ⟨_, _, _, _, ⟨_, rx⟩, _, _, _, _, _, _, _, _, _⟩ := p
  rcases rx with _ | (⟨_ | _, _, _⟩ | _ | _) <;>
    simp [Port.cutRx, Port.closeWithError, closingWords, cutWords, delivering, Port.count, Counters.bump,
      satInc_eq_satAdd, Port.setRx, Port.deliver]

/-- A whole management frame has come: nothing is in reception, and a DATA frame in delivery is cut (R13). -/
theorem Port.endManagement_eq (p : Port) : p.endManagement = { p with
    ssp := { p.ssp with rx := none }
    egressOut := p.egressOut ++ cutWords p.ssp.rx
    counters := { p.counters with rxErr := satAdd p.counters.rxErr (delivering p.ssp.rx).toNat } } := by
  unfold Port.endManagement
  split
  · rename_i h; simp [h, Port.setRx, cutWords, delivering]
  · rename_i h; simp [Port.breakRx_eq, h]

/-- The failures that a reset finds due: each as at its expiry (R152), or nothing with the loss first (R66). -/
theorem Port.reportDue_eq (failureFirst : Bool) (now : Nat) (p was : Port) :
    p.reportDue failureFirst now was = if failureFirst = true then failedAt now was p else p := by
  have hr : ∀ q : Port, q.refreshLost now = Port.failure now { q with
      counters := { q.counters with refreshLoss := satAdd q.counters.refreshLoss 1 } } := by
    intro q; simp [Port.refreshLost, Port.count, Counters.bump, satInc_eq_satAdd]
  have hw : ∀ q : Port, q.wakeMissed now = Port.failure now { q with
      counters := { q.counters with wakeFail := satAdd q.counters.wakeFail 1 }
      flags := q.flags ||| BitVec.twoPow 11 7 } := by
    intro q; simp [Port.wakeMissed, Port.count, Port.raise, Counters.bump, satInc_eq_satAdd, PortFlag.bit]
  simp only [Port.reportDue, hr, hw]
  cases failureFirst <;> simp only [Bool.and_true, Bool.and_false, if_true, if_false, Bool.false_eq_true]
  unfold failedAt isDue
  cases was.psc.refreshWatch <;> cases hp : was.psc.ps <;> simp [PS.deadlineTimer]
  all_goals rename_i w; cases w.deadlineTimer <;> simp

/-- PSC n after a link loss is as after pin reset (R18, R45, R66). -/
theorem Psc.linkLost_eq (c : Psc) : c.linkLost = {} := rfl

/-! ## Words and depths -/

/-- A word asked for by PSC n (R10). -/
theorem Port.say_eq (w : OneShot) (p : Port) : p.say w = { p with lineOut := p.lineOut ++ said p.lpe.link w } := by
  unfold Port.say said Port.emit
  split <;> simp

/-- Unannounced activity (R14, R63). -/
theorem Port.unannounced_eq (now : Nat) (p : Port) : p.unannounced now = roused now p := by
  simp [Port.unannounced, Port.startRevival, Port.setRs, Port.setFill, Port.count, Counters.bump, satInc_eq_satAdd,
    roused, Config.revivalTime]

/-- The first entry into DEEP with words sent (R31). -/
theorem Port.enterDeep_eq (now : Nat) (out : List LineTx) (p : Port) :
    ({ p with lineOut := p.lineOut ++ out } : Port).enterDeep now = asleepDeep now out p := by
  by_cases h : ∃ o, p.psc.offer = some o ∧ o.depth = .deep <;>
    simp [Port.enterDeep, asleepDeep, Port.toJoint, Port.cutRx_eq, Port.setRs, Port.setFill, Psc.stopTimers,
      Psc.hasOffer_iff, Port.setOffer, Port.startRefreshSend, Port.startRefreshWatch, Port.startDormantTimer, after, h]

/-- Entry into DORMANT with words sent (R39). -/
theorem Port.enterDormant_eq (out : List LineTx) (p : Port) :
    ({ p with lineOut := p.lineOut ++ out } : Port).enterDormant = asleepDormant out p := by
  simp [Port.enterDormant, asleepDormant, Psc.stopTimers]

/-- The end of a wake in ACTIVE, at PSC n (R60, R64). -/
theorem Port.wakeEnd_eq (p : Port) : p.wakeEnd = { p with psc := wakeEnded p.psc } := rfl

/-- A new aging candidate (R133). -/
theorem Port.takeCandidate_eq (p : Port) :
    p.takeCandidate = { p with txq := { p.txq with agingDeadline := deadlineFor p.cfg p.txq.queue } } := by
  have hf : (fun d : Descriptor => !d.isTransmitting) = fun d => d.state != .transmitting := by
    funext d; rfl
  unfold Port.takeCandidate deadlineFor Txq.candidate
  rw [hf]
  cases p.txq.queue.find? (fun d => d.state != .transmitting) with
  | none => rfl
  | some d =>
    by_cases h : p.cfg.ageLimit = 0
    · simp [h]
    · have h' : ¬ p.cfg.ageLimit.toNat = 0 := fun e => h (BitVec.eq_of_toNat_eq (by simpa using e))
      simp only [h, h', if_false]

end Sys2Proof.Machine
end

