-- ==== Sys2Proof/Laws/Frame.lean ====
section
/-! SUPPORT. Laws/Frame.lean: what no shared operation touches: the time base, RESETN, the host's last read, the draws and
the queue of commands; and what a grant leaves of the ports it does not reach. -/

namespace Sys2Proof.Machine

/-- `t` holds the time base, the reset pin, the last read, the draws and the waiting commands of `s`. -/
def Same (s t : State) : Prop :=
  t.now = s.now ∧ t.resetHeld = s.resetHeld ∧ t.readData = s.readData ∧ t.draws = s.draws ∧ t.pending = s.pending

theorem Same.refl (s : State) : Same s s := ⟨rfl, rfl, rfl, rfl, rfl⟩

theorem Same.trans {s t u : State} (h : Same s t) (k : Same t u) : Same s u :=
  ⟨k.1.trans h.1, k.2.1.trans h.2.1, k.2.2.1.trans h.2.2.1, k.2.2.2.1.trans h.2.2.2.1, k.2.2.2.2.trans h.2.2.2.2⟩

theorem same_modPort (n : PortId) (f : Port → Port) (s : State) : Same s (s.modPort n f) := ⟨rfl, rfl, rfl, rfl, rfl⟩
theorem same_modWba (f : Wba → Wba) (s : State) : Same s (s.modWba f) := ⟨rfl, rfl, rfl, rfl, rfl⟩
theorem same_modPool (f : Pool → Pool) (s : State) : Same s (s.modPool f) := ⟨rfl, rfl, rfl, rfl, rfl⟩
theorem same_modDev (f : Device → Device) (s : State) : Same s (s.modDev f) := ⟨rfl, rfl, rfl, rfl, rfl⟩

/-! ## The arbiter -/

theorem same_grantLoop (k : Nat) (s : State) : Same s (grantLoop k s) := by
  induction k generalizing s with
  | zero => exact .refl s
  | succ k ih =>
    rw [grantLoop]
    split
    · split
      · exact .refl s
      · exact .trans (.trans (same_modWba ..) (same_modPort ..)) (ih _)
    · exact .refl s

/-- A test of the grant condition keeps the pool and the device locations. -/
theorem grantLoop_keeps (k : Nat) (s : State) : (grantLoop k s).pool = s.pool ∧ (grantLoop k s).dev = s.dev := by
  induction k generalizing s with
  | zero => exact ⟨rfl, rfl⟩
  | succ k ih =>
    rw [grantLoop]
    split
    · split
      · exact ⟨rfl, rfl⟩
      · exact ⟨(ih _).1, (ih _).2⟩
    · exact ⟨rfl, rfl⟩

/-- A grant does not reach a port that is not in GRANT-WAIT (R75). -/
theorem grantLoop_port (k : Nat) (s : State) (n : PortId) (h : (s.port n).psc.ps.isGrantWait = false) :
    (grantLoop k s).port n = s.port n := by
  induction k generalizing s with
  | zero => rfl
  | succ k ih =>
    rw [grantLoop]
    split
    · split
      · rfl
      · rename_i e rest _
        have hp : (s.grantEntry e rest).port n = s.port n := by
          unfold State.grantEntry
          rw [State.port_modPort]
          split
          · rename_i hn
            subst hn
            exact Port.takeGrant_of_not_waiting h _
          · rfl
        rw [ih _ (by rw [hp]; exact h), hp]
    · rfl

theorem same_testGrant (s : State) : Same s s.testGrant := same_grantLoop ..

theorem testGrant_port (s : State) (n : PortId) (h : (s.port n).psc.ps.isGrantWait = false) :
    s.testGrant.port n = s.port n := grantLoop_port _ s n h

@[simp] theorem testGrant_pool (s : State) : s.testGrant.pool = s.pool := (grantLoop_keeps _ s).1
@[simp] theorem testGrant_dev (s : State) : s.testGrant.dev = s.dev := (grantLoop_keeps _ s).2

theorem same_request (n : PortId) (d : JointDepth) (s : State) : Same s (s.request n d) :=
  .trans (same_modWba ..) (same_testGrant _)

theorem same_enterGrantWait (n : PortId) (r : GrantWait) (s : State) : Same s (s.enterGrantWait n r) :=
  .trans (same_modPort ..) (same_request ..)

theorem same_wakeCheck (n : PortId) (s : State) : Same s (s.wakeCheck n) := by
  unfold State.wakeCheck
  repeat' split
  all_goals first | exact .refl s | exact same_modPort .. | exact same_enterGrantWait ..

theorem same_withdrawCheck (n : PortId) (s : State) : Same s (s.withdrawCheck n) := by
  unfold State.withdrawCheck
  repeat' split
  all_goals exact .refl s

theorem same_promoteCheck (n : PortId) (s : State) : Same s (s.promoteCheck n) := by
  unfold State.promoteCheck
  split
  · exact .trans (same_modWba ..) (same_testGrant _)
  · exact .refl s

theorem same_releaseUnit (s : State) : Same s s.releaseUnit := .trans (same_modWba ..) (same_testGrant _)

theorem same_partnerUnit (s : State) : Same s s.partnerUnit := by
  unfold State.partnerUnit
  simp only
  split
  · exact .trans (.trans (same_modDev ..) (same_modWba ..)) (same_testGrant _)
  · exact .trans (same_modWba ..) (same_testGrant _)

theorem same_partnerWake (n : PortId) (d : JointDepth) (s : State) : Same s (s.partnerWake n d) :=
  .trans (.trans (same_modWba ..) (same_modPort ..)) (same_partnerUnit _)

/-! ## The queue -/

theorem same_newHead (n : PortId) (s : State) : Same s (s.newHead n) := by
  unfold State.newHead
  simp only
  split
  · exact same_modPort ..
  · split
    · exact .trans (same_modPort ..) (same_promoteCheck ..)
    · exact same_modPort ..

theorem same_removeAt (n : PortId) (i : Nat) (c : Counter) (s : State) : Same s (s.removeAt n i c) := by
  unfold State.removeAt
  split
  · exact .refl s
  · simp only
    split
    · exact .trans (.trans (same_modPort ..) (same_modPool ..)) (same_newHead ..)
    · exact .trans (same_modPort ..) (same_modPool ..)

theorem same_select (n : PortId) (s : State) : Same s (s.select n) := by
  unfold State.select
  simp only
  repeat' split
  all_goals exact .refl s

theorem same_settle (n : PortId) (s : State) : Same s (s.settle n) := .trans (same_select ..) (same_modPort ..)

theorem same_admit (n : PortId) (length : Nat) (tag : Byte) (s : State) : Same s (s.admitFrame n length tag) := by
  have low : ∀ u : State, Same u u.poolLowCheck := fun u => by
    unfold State.poolLowCheck; split
    · exact same_modDev ..
    · exact .refl u
  unfold State.admitFrame
  simp only
  refine .trans ?_ (same_modPort ..)
  refine .trans ?_ (same_wakeCheck ..)
  refine .trans ?_ (same_promoteCheck ..)
  split
  · exact .trans (.trans (.trans (same_modPool ..) (low _)) (same_modPort ..)) (same_newHead ..)
  · exact .trans (.trans (same_modPool ..) (low _)) (same_modPort ..)

/-! ## The link -/

theorem same_loseLink (n : PortId) (g : Bool) (s : State) : Same s (s.loseLink n g) := by
  unfold State.loseLink
  simp only
  have h := Same.trans (.trans (same_modPort n Port.linkLost s) (same_modPool (Pool.freeCells (s.port n).cells) _))
    (same_modWba (Wba.remove n) _)
  split
  · unfold State.releaseAtLoss
    split
    · exact .trans h (same_releaseUnit _)
    · exact .trans h (same_modWba ..)
  · exact h

theorem same_resetPort (n : PortId) (g : Bool) (s : State) : Same s (s.resetPort n g) := by
  unfold State.resetPort
  simp only
  refine .trans ?_ (same_modPort ..)
  split
  · exact .trans (same_modPort ..) (same_loseLink ..)
  · exact same_modPort ..

end Sys2Proof.Machine
end

