-- ==== Sys2Proof/Laws/Memory.lean ====
section
/-! SUPPORT. Laws/Memory.lean: every operation on the pool's data keeps the canonical form, a byte reads back as it was
written, and every other byte as before. -/

namespace Sys2Proof.Machine

/-- The memory of the reset state is in the canonical form. -/
theorem Memory.wf_reset : Memory.wf State.reset.pool.data := by simp [State.reset, Memory.wf]

/-- The memory while RESETN is asserted is in the canonical form. -/
theorem Memory.wf_held : Memory.wf State.held.pool.data := by simp [State.held, Memory.wf]

/-- The rest of a memory in the canonical form is in it too, and lists rising addresses above the first. -/
theorem Memory.wf_cons {c : Host.Cell} {m : List Host.Cell} (h : Memory.wf (c :: m)) :
    Memory.wf m ∧ (∀ d ∈ m, c.1 < d.1) ∧ c.1 < poolBytes ∧ c.2 ≠ Memory.unlisted := by
  obtain ⟨hp, hm⟩ := h
  rw [List.pairwise_cons] at hp
  exact ⟨⟨hp.2, fun d hd => hm d (List.mem_cons_of_mem _ hd)⟩, hp.1, hm c (List.mem_cons_self ..)⟩

/-- An address below every listed one reads as an unlisted byte. -/
theorem Memory.read_below {m : List Host.Cell} {a : Nat} (h : ∀ d ∈ m, a < d.1) :
    Memory.read m a = Memory.unlisted := by
  induction m with
  | nil => rfl
  | cons c m ih =>
    have hc := h c (List.mem_cons_self ..)
    rw [Memory.read, if_neg (by omega)]
    exact ih fun d hd => h d (List.mem_cons_of_mem _ hd)

/-- What a write leaves listed: entries of before, or the byte written. -/
theorem Memory.mem_write {m : List Host.Cell} {a : Nat} {b : Byte} {d : Host.Cell}
    (h : d ∈ Memory.write m a b) : d ∈ m ∨ (d = (a, b) ∧ b ≠ Memory.unlisted) := by
  induction m with
  | nil =>
    simp only [Memory.write] at h
    split at h
    · exact absurd h (by simp)
    · exact .inr ⟨by simpa using h, by assumption⟩
  | cons c m ih =>
    simp only [Memory.write] at h
    split at h
    · split at h
      · exact .inl h
      · rcases List.mem_cons.mp h with rfl | h
        · exact .inr ⟨rfl, by assumption⟩
        · exact .inl h
    · split at h
      · split at h
        · exact .inl (List.mem_cons_of_mem _ h)
        · rcases List.mem_cons.mp h with rfl | h
          · exact .inr ⟨rfl, by assumption⟩
          · exact .inl (List.mem_cons_of_mem _ h)
      · rcases List.mem_cons.mp h with rfl | h
        · exact .inl (List.mem_cons_self ..)
        · rcases ih h with h | h
          · exact .inl (List.mem_cons_of_mem _ h)
          · exact .inr h

/-- A write keeps the canonical form. -/
theorem Memory.wf_write {m : List Host.Cell} {a : Nat} {b : Byte} (h : Memory.wf m) (ha : a < poolBytes) :
    Memory.wf (Memory.write m a b) := by
  induction m with
  | nil => simp only [Memory.write]; split <;> simp_all [Memory.wf]
  | cons c m ih =>
    obtain ⟨hm, hlt, hb, hu⟩ := Memory.wf_cons h
    simp only [Memory.write]
    split
    · rename_i hac
      split
      · exact h
      · rename_i hne
        refine ⟨List.pairwise_cons.mpr ⟨?_, h.1⟩, ?_⟩
        · intro d hd
          rcases List.mem_cons.mp hd with rfl | hd
          · exact hac
          · exact Nat.lt_trans hac (hlt d hd)
        · intro d hd
          rcases List.mem_cons.mp hd with rfl | hd
          · exact ⟨ha, hne⟩
          · exact h.2 d hd
    · split
      · rename_i hac
        split
        · exact hm
        · rename_i hne
          refine ⟨List.pairwise_cons.mpr ⟨fun d hd => by simpa [hac] using hlt d hd, hm.1⟩, ?_⟩
          intro d hd
          rcases List.mem_cons.mp hd with rfl | hd
          · exact ⟨ha, hne⟩
          · exact hm.2 d hd
      · rename_i h1 h2
        refine ⟨List.pairwise_cons.mpr ⟨?_, (ih hm).1⟩, ?_⟩
        · intro d hd
          rcases Memory.mem_write hd with hd | ⟨rfl, -⟩
          · exact hlt d hd
          · show c.1 < a
            omega
        · intro d hd
          rcases List.mem_cons.mp hd with rfl | hd
          · exact ⟨hb, hu⟩
          · exact (ih hm).2 d hd

/-- A byte reads back as it was written, every other byte as before. -/
theorem Memory.read_write {m : List Host.Cell} (h : Memory.wf m) (a x : Nat) (b : Byte) :
    Memory.read (Memory.write m a b) x = if x = a then b else Memory.read m x := by
  induction m with
  | nil =>
    by_cases hb : b = Memory.unlisted <;> by_cases hx : x = a <;>
      simp [Memory.write, Memory.read, hb, hx, eq_comm]
    intro hax
    exact absurd hax.symm hx
  | cons c m ih =>
    obtain ⟨hm, hlt, -, -⟩ := Memory.wf_cons h
    simp only [Memory.write]
    split
    · rename_i hac
      have below : Memory.read (c :: m) a = Memory.unlisted := by
        apply Memory.read_below
        intro d hd
        rcases List.mem_cons.mp hd with rfl | hd
        · exact hac
        · exact Nat.lt_trans hac (hlt d hd)
      split
      · rename_i hb
        split
        · rename_i hx; rw [hx, hb, below]
        · rfl
      · rw [Memory.read]
        by_cases hx : x = a
        · simp [hx]
        · rw [if_neg (fun e => hx e.symm), if_neg hx]
    · split
      · rename_i hac
        split
        · rename_i hb
          by_cases hx : x = a
          · rw [if_pos hx, hx, hb]
            exact Memory.read_below fun d hd => by rw [hac]; exact hlt d hd
          · rw [if_neg hx, Memory.read, if_neg (by omega)]
        · by_cases hx : x = a
          · simp [Memory.read, hx]
          · rw [Memory.read, Memory.read, if_neg (fun e => hx e.symm), if_neg hx, if_neg (by omega)]
      · rename_i h1 h2
        rw [Memory.read, Memory.read]
        by_cases hc : c.1 = x
        · rw [if_pos hc, if_pos hc, if_neg (by omega)]
        · rw [if_neg hc, if_neg hc, ih hm]

/-- The address of a byte of a frame stands within the pool (R99, R108). -/
theorem byteAddress_lt {cells : List CellNo} {i a : Nat} (h : byteAddress cells i = some a) : a < poolBytes := by
  simp only [byteAddress, Option.map_eq_some_iff] at h
  obtain ⟨c, -, rfl⟩ := h
  have hc := c.isLt
  have hm : i % 128 < 128 := Nat.mod_lt _ (by decide)
  simp only [poolBytes, Config.poolCells, Config.cellBytes]
  omega

/-- Storing a byte of a frame keeps the canonical form (R108). -/
theorem Pool.wf_writeByte {pool : Pool} (h : Memory.wf pool.data) (cells : List CellNo) (i : Nat) (b : Byte) :
    Memory.wf (pool.writeByte cells i b).data := by
  unfold Pool.writeByte
  split
  · rename_i a ha; exact Memory.wf_write h (byteAddress_lt ha)
  · exact h

/-- Storing a byte of a frame leaves the free list and pool_low alone. -/
@[simp] theorem Pool.writeByte_free (pool : Pool) (cells : List CellNo) (i : Nat) (b : Byte) :
    (pool.writeByte cells i b).free = pool.free := by unfold Pool.writeByte; split <;> rfl

@[simp] theorem Pool.writeByte_low (pool : Pool) (cells : List CellNo) (i : Nat) (b : Byte) :
    (pool.writeByte cells i b).low = pool.low := by unfold Pool.writeByte; split <;> rfl

/-- Taking and freeing cells leaves the data alone (R100). -/
@[simp] theorem Pool.takeCells_data (k : Nat) (pool : Pool) : (pool.takeCells k).data = pool.data := rfl
@[simp] theorem Pool.freeCells_data (cells : List CellNo) (pool : Pool) : (pool.freeCells cells).data = pool.data := rfl

end Sys2Proof.Machine
end

