-- ==== Sys2Proof/Tests/Slice0.lean ====
section
/-! SUPPORT. Tests/Slice0.lean: the checks of WellFormed refused one by one, small tests with values taken from the Guide's
text and tables, and for every statement with hypotheses states that meet them, clause by clause. -/

-- One theorem at a time: their kernel checks side by side would each hold a thread and its stack.
set_option Elab.async false

namespace Sys2Proof.Machine.Tests

/-! ## WellFormed -/

/-- Only a DATA frame has a length and tag (R189). -/
theorem test_wf_header_of_management_refused :
    (Instr.rxFrameStart 0 0x02 (some { length := 64, tag := 0 })).wellFormed = false := by decide

/-- An ADVERT has a body of 8 bytes (R189). -/
theorem test_wf_short_advert_refused :
    (Instr.receiveAdvert 0 ⟨[0, 0, 0, 0, 0, 0, 0], 0, 0⟩).wellFormed = false := by decide

/-- An ECHO has a body of 1 byte (R189). -/
theorem test_wf_long_echo_refused : (Instr.receiveEcho 0 ⟨[0, 0], 0, 0⟩).wellFormed = false := by decide

/-- An ECHO of seq 5: the check sequence of 03H and 50H is 12A9H, most significant byte first (R189). -/
theorem test_wf_echo_check :
    (Instr.receiveEcho 0 ⟨[0x50], 0x12, 0xA9⟩).wellFormed = true ∧
    (Instr.receiveEcho 0 ⟨[0x50], 0xA9, 0x12⟩).wellFormed = false := by decide +kernel

/-- An ADVERT whose check sequence does not match is refused (R13, R189). -/
theorem test_wf_advert_check_refused :
    (Instr.receiveAdvert 0 ⟨[0x10, 0, 2, 0, 40, 5, 220, 10], 0, 0⟩).wellFormed = false := by decide +kernel

/-- WBUDGET, at 0x00C, is no staging word (R183). -/
theorem test_wf_register_write_of_wbudget_refused : (Instr.registerWrite 0x00C 1).wellFormed = false := by decide

/-- CFG0 staging of port 0, at 0x200, is one (R185). -/
theorem test_wf_register_write_of_staging : (Instr.registerWrite 0x200 1).wellFormed = true := by decide

/-- A read of ID0, at 0x000, is no faulty access (R179). -/
theorem test_wf_mapped_read_refused : (Instr.faultyAccess (.read 0x000)).wellFormed = false := by decide

/-- A full write of CFG0 staging is no faulty access; a partial one is (R179). -/
theorem test_wf_partial_write :
    (Instr.faultyAccess (.write 0x200 0b1111 0)).wellFormed = false ∧
    (Instr.faultyAccess (.write 0x200 0b0111 0)).wellFormed = true := by decide

/-- No row of the table has bits, so no word spells a command. -/
theorem test_decode_none : decodeTableWord 32 0xFFFFFFFF = none := by decide

/-! ## Helpers -/

/-- The device after reset with this port 0. -/
def at0 (p : Port) : State := State.reset.setPort 0 p

/-- A port UP in ACTIVE, its exchange done, with the deepest ceiling and a partner that takes DORMANT. -/
def up : Port where
  lpe := { link := .up, signal := true }
  psc := { ps := .active }
  adu := { state := .echoed, seq := 1
           pa := { valid := true, capability := 3, tDim := 20, tDeep := 200, tDormant := 5000, refreshMs := 10 } }
  dgv := { ceiling := .dormant, restore := some 10000000 }
  cfg := { maxCeiling := .dormant }

/-- A port in this power and receive state. -/
def inPs (ps : PS) (rs : RS) : Port := { up with psc := { up.psc with ps := ps, rs := rs } }

/-- A COMPLETE frame of 64 bytes in cell 0, admitted at 0. -/
def frame : Descriptor where
  length := 64
  tag := 7
  cells := [0]
  admission := 0
  release := none
  state := .complete
  mark := false

/-- A port with this queue. -/
def withQueue (queue : List Descriptor) : Port := { up with txq := { queue := queue } }

/-- A wake of self-depth DIM and wait-depth DEEP in phase SELF, its timer at 2. -/
def selfWake : WakeRecord := newWake .localEnd .dim .deep false false 0 2

/-- The same wake in phase PARTNER, its wait timer at 200 and its deadline at 250. -/
def partnerPhase : WakeRecord := { selfWake with
  phase := .partner, selfTimer := none, waitDuration := some 200, waitTimer := some 200, deadlineDuration := some 250
  deadlineTimer := some 250 }

/-- GRANT-WAIT from this depth. -/
def waitingFrom (d : JointDepth) : Port := inPs (.grantWait { fromDepth := d, waitDepth := d }) .joint

/-- A NORMAL entry of port 0. -/
def entry0 : WbaEntry where
  port := 0
  cls := .normal
  fromDepth := .deep
  entryTime := 0

/-- Port 0 after a command. -/
def after0 (c : Instr) (s : State) : Option Port :=
  match exec c s with
  | .next t => some (t.port 0)
  | .fault _ => none
  | .refused _ => none

/-- The device at this port 0 is out of reset, and the port meets these hypotheses. -/
def meets (p : Port) (h : Port → Bool) : Bool := !(at0 p).resetHeld && h ((at0 p).port 0)

/-! ## Values of the Guide -/

/-- The check value of the polynomial x¹⁶ + x¹² + x⁵ + 1 from all ones over the digits 1 to 9 (R189), as the catalogues
of check sequences give it. -/
theorem test_crc_of_digits :
    crcBytes 0xFFFF [0x31, 0x32, 0x33, 0x34, 0x35, 0x36, 0x37, 0x38, 0x39] = 0x29B1 := by decide +kernel

/-- The defaults of section 9.1 pass the tests of APPLY (R154). -/
theorem test_defaults_in_range : ({} : PortConfig).inRange = true := by decide

/-- CFG0 of the default record: enable 1, max_ceiling DIM, VARIABLE, fail_threshold 3, restore_period 10 (R186). -/
theorem test_cfg0_default : ({} : PortConfig).word 0 = 0x00000A33 := by decide

/-- ID0 reads as the identification value (R183). -/
theorem test_read_id0 : State.reset.readWord 0x000 = 0x5E180DA5 := by decide +kernel

/-- With an ADVERT of t_dim 20 the wait of a DIM wake is 20 µs, without one 50 µs (R52). -/
theorem test_partner_time_of_dim : up.partnerTime .dim = 20 ∧ ({} : Port).partnerTime .dim = 50 := by decide

/-- A signal starts 1 ms of acquisition (R1, R2). -/
theorem test_signal_acquires :
    (after0 (.signalPresent 0) State.reset).map (fun p => (p.lpe.link, p.lpe.acquire)) =
      some (.acquiring, some 1000) := by decide +kernel

/-- At link up the ADVERT goes at once (R4, R85, R126): the transmitter is BUSY with seq 1. -/
theorem test_link_up_adverts :
    (after0 (.acquireTimerExpiry 0)
        (at0 { lpe := { link := .acquiring, acquire := some 1000, signal := true } })).map
      (fun p => (p.lpe.link, p.adu.seq, p.adu.advertPending)) = some (.up, 1, false) := by decide +kernel

/-- An OFD in DIM is answered, and the port goes quiet in DEEP (R26, R31). -/
theorem test_ofd_in_dim :
    (after0 (.receiveOfd 0) (at0 (inPs .dim .awake))).map (fun p => (p.psc.ps, p.psc.rs, p.lineOut)) =
      some (.deep, .joint, [.word .ofd]) := by decide +kernel

/-- An RDY in LISTEN outside phase PARTNER is not counted as unannounced activity (R14). -/
theorem test_rdy_in_listen_not_counted :
    (after0 (.receiveRdy 0) (at0 (inPs .dim .listen))).map (·.counters.rxUnannounced) = some 0 := by decide +kernel

/-- An RFR in LISTEN is (R14). -/
theorem test_rfr_in_listen_counted :
    (after0 (.receiveRfr 0) (at0 (inPs .dim .listen))).map (fun p => (p.counters.rxUnannounced, p.psc.rs)) =
      some (1, .reviving) := by decide +kernel

/-- The third failure drops the ceiling by one level and clears the counter (R144, threshold 3). -/
theorem test_third_failure_drops :
    (let p := ({ up with dgv := { up.dgv with failures := 2 } } : Port).failure 0
     (p.dgv.ceiling, p.dgv.failures, p.flags)) = (.deep, 0, 0b100000) := by decide

/-- A saturated counter stays at its largest value (R172). -/
theorem test_counter_saturates : satInc 0xFFFFFFFF = 0xFFFFFFFF ∧ satInc 0xFFFFFFFE = 0xFFFFFFFF := by decide

/-- A frame of 129 bytes takes two cells, one of 2048 sixteen (R107). -/
theorem test_cells_of_lengths : cellsFor 64 = 1 ∧ cellsFor 128 = 1 ∧ cellsFor 129 = 2 ∧ cellsFor 2048 = 16 := by decide

/-- An ingress frame of 63 bytes is ignored with DISC_ABORT (R106). -/
theorem test_short_ingress_frame :
    (after0 (.sspFrameStart 0 63) (at0 up)).map (fun p => (p.counters.discAbort, p.ssp.ingress.map (·.route))) =
      some (1, some .ignore) := by decide +kernel

/-- One of 64 bytes is bypassed where the line is free (R106). -/
theorem test_bypass_ingress_frame :
    (after0 (.sspFrameStart 0 64) (at0 up)).map (fun p => (p.counters.txBypass, p.ssp.ingress.map (·.route))) =
      some (1, some .bypass) := by decide +kernel

/-- Byte 0 of a frame in cell 0 reads back, and the byte after it stays as it was (R108). -/
theorem test_byte_written :
    let pool := ({ free := [] } : Pool).writeByte [0] 0 0x5A
    Memory.read pool.data 0 = 0x5A ∧ Memory.read pool.data 1 = Memory.unlisted := by decide

/-- A write of 0 removes the entry: equal memories are equal data. -/
theorem test_write_of_unlisted_removes : Memory.write [(3, 0x11)] 3 0 = [] := by decide

/-- W 9 is refused with ACCESS_ERROR (R70). -/
theorem test_write_w_out_of_range :
    (match exec (.writeW 9) State.reset with
     | .next t => some (t.wba.w, t.dev.flags)
     | .fault _ => none
     | .refused _ => none) = some (2, 0b100) := by decide +kernel

/-- pool_low 5000 is stored as 4096 (R121). -/
theorem test_pool_low_limited :
    (match exec (.writePoolLow 5000) State.reset with
     | .next t => some t.pool.low
     | .fault _ => none
     | .refused _ => none) = some 4096 := by decide +kernel

/-- FORCE_WAKE without a link is refused NO_LINK, and CMD_REJECT is set (R163). -/
theorem test_force_wake_no_link :
    (after0 (.forceWake 0) State.reset).map (fun p => (p.slot.result, p.slot.reason, p.flags)) =
      some (.rejected, .noLink, 0b10000000000) := by decide +kernel

/-- FORCE_WAKE in DIM begins a LOCAL wake of 2 µs (R163, R41). -/
theorem test_force_wake_in_dim :
    (after0 (.forceWake 0) (at0 (inPs .dim .awake))).map (fun p => p.psc.ps.selfTimer) = some (some 2) := by
  decide +kernel

/-- The waits of the wake sequence from DIM: ALR at 2 µs, then 20 µs for the partner and 50 µs of guard (R51, R52). -/
theorem test_self_end_calls :
    (after0 (.selfTimerExpiry 0)
        (at0 (inPs (.waking { selfWake with waitDepth := .dim }) .awake))).map
      (fun p => (p.lineOut, p.psc.ps.waitTimer, p.psc.ps.deadlineTimer)) =
      some ([.word .alr], some 22, some 72) := by decide +kernel

/-- A flag whose bit is written 1 is cleared, one whose bit is 0 stays (R175). -/
theorem test_flag_clear :
    (after0 (.flagClearWrite (.port 0) 0b01) (at0 { up with flags := 0b11 })).map (·.flags) = some 0b10 := by
  decide +kernel

/-- SOFT_RESET leaves an enabled port in RESTART for 2 ms without LINK_DOWN (R169). -/
theorem test_soft_reset :
    (after0 .softReset (at0 up)).map (fun p => (p.lpe.link, p.lpe.restart, p.flags)) =
      some (.restart, some 2000, 0) := by decide +kernel

/-- A reset of a port in DEEP that finds the refresh watch at its end: with the failure first the loss is counted and the
failure counter ends at 1 (R34, R152); with the loss of the link first nothing is counted (R66). -/
theorem test_reset_with_due_refresh_watch :
    let deep : Port := { inPs .deep .joint with
      psc := { ps := .deep, rs := .joint, refreshWatch := some 0 }, dgv := { failures := 2 } }
    let left (first : Bool) := ((deep.resetBlocks 0).reportDue first 0 deep)
    ((left true).counters.refreshLoss, (left true).dgv.failures, (left true).dgv.ceiling) = (1, 1, .dormant) ∧
    ((left false).counters.refreshLoss, (left false).dgv.failures, (left false).dgv.ceiling) = (0, 0, .dormant) := by
  decide +kernel

/-- With fail_threshold 1 the ceiling drops at once (R152). -/
theorem test_reset_with_missed_wake_drops :
    let late : Port := { inPs (.waking { partnerPhase with deadlineTimer := some 0 }) .awake with
      cfg := { up.cfg with failThreshold := 1 } }
    let left := (late.resetBlocks 0).reportDue true 0 late
    (left.counters.wakeFail, left.dgv.failures, left.dgv.ceiling) = (1, 0, .deep) := by decide +kernel

/-- A grant at the moment at which the refresh watch ends: the wake begins, and the refresh loss then drops it, its unit
released (R75). -/
theorem test_refresh_loss_after_grant :
    let waiting : Port := { waitingFrom .deep with psc := { (waitingFrom .deep).psc with
      refreshWatch := some 0, force := true } }
    let s : State := { at0 waiting with wba := { queue := [entry0] } }
    let t := s.testGrant
    ((t.port 0).psc.ps.holdsUnit, t.wba.count) = (true, 1) ∧
    (after0 (.refreshWatchExpiry 0) t).map (fun p => (p.lpe.link, p.psc.ps, p.counters.refreshLoss)) =
      some (.restart, .offline, 1) ∧
    (match exec (.refreshWatchExpiry 0) t with
     | .next u => u.wba.count
     | .fault _ => 1
     | .refused _ => 1) = 0 := by decide +kernel

/-- An ADVERT of seq 5 inside an unfinished DATA frame: PA takes its values, and the frame is cut with RX_ERR (R13, R91;
check sequence by hand: 167BH). -/
theorem test_advert_cuts_data :
    (after0 (.receiveAdvert 0 ⟨[0x50, 0x00, 0x14, 0x00, 0xC8, 0x13, 0x88, 0x0A], 0x16, 0x7B⟩)
        (at0 { up with ssp := { rx := some (.data none 0 0) } })).map
      (fun p => (p.adu.pa.seq, p.adu.pa.tDormant, p.ssp.rx, p.counters.rxErr)) =
      some (5, 5000, none, 1) := by decide +kernel

/-- The same ADVERT with the bytes of its check sequence exchanged is discarded (R13, R189). -/
theorem test_advert_swapped_check_discarded :
    (after0 (.receiveAdvert 0 ⟨[0x50, 0x00, 0x14, 0x00, 0xC8, 0x13, 0x88, 0x0A], 0x7B, 0x16⟩) (at0 up)).map
      (fun p => (p.adu.pa.seq, p.counters.mgmtDiscard)) = some (0, 1) := by decide +kernel

/-- An ADVERT of capability 0 in OFFER-DEEP: its ECHO is a wake cause, and a LOCAL wake of wait-depth DEEP begins (R27,
R41, R48, R92; check sequence as in the test before). -/
theorem test_advert_wakes_offer_deep :
    (after0 (.receiveAdvert 0 ⟨[0x50, 0x00, 0x14, 0x00, 0xC8, 0x13, 0x88, 0x0A], 0x16, 0x7B⟩)
        (at0 (inPs .offerDeep .awake))).map
      (fun p => (p.psc.ps, p.adu.echoPending, p.counters.wakesLocal)) =
      some (.waking (newWake .localEnd .dim .deep false false 0 2), some 5, 1) := by decide +kernel

/-- Two COMPLETE descriptors past their deadline at an IDLE transmitter in ACTIVE: the head is aged, and the selection
that follows its removal starts the one behind it (R126, R134). -/
theorem test_aging_selects_before_next :
    (after0 (.agingExpiry 0) (at0 { up with
        txq := { queue := [frame, { frame with tag := 9 }], agingDeadline := some 1000 }
        cfg := { up.cfg with ageLimit := 1 } })).map
      (fun p => (p.txq.queue.map fun d => (d.tag, d.state), p.counters.discAged)) =
      some ([(9, .transmitting)], 1) := by decide +kernel

/-- With the transmitter BUSY both go at the one expiry, the second with its deadline of 1 ms from admission reached
(R134). -/
theorem test_aging_removes_further :
    (after0 (.agingExpiry 0) ((at0 { up with
        lpe := { up.lpe with tx := .busy .echo 0 }
        txq := { queue := [frame, { frame with tag := 9 }], agingDeadline := some 1000 }
        cfg := { up.cfg with ageLimit := 1 } }))).map
      (fun p => (p.txq.queue.map fun d => (d.tag, d.state), p.counters.discAged)) =
      some ([], 2) := by decide +kernel

/-! ## Witnesses of the hypotheses: queue, time, resets and link -/

theorem witness_StepRunsFrontCommand :
    ({ State.reset with pending := [.grant, .softReset] } : State).pending = .grant :: [.softReset] := rfl

theorem witness_IdleStepPassesTime :
    State.held.pending = [] ∧ State.held.resetHeld = true ∧
    State.reset.pending = [] ∧ State.reset.resetHeld = false ∧ State.reset.due = [] ∧
    ({ State.reset with now := 1 } : State).due = [] ∧
    ({ State.reset with now := 99 } : State).due = [] ∧
    ({ State.reset with now := 100 } : State).due ≠ [] := by decide +kernel

theorem witness_NothingTakenWhileHeldOrStopped :
    State.held.resetHeld = true ∧ Instr.grant ≠ .pinReset ∧ Instr.grant ≠ .resetnRelease ∧
    (∀ n, Instr.grant ≠ .signalPresent n) ∧ (∀ n, Instr.grant ≠ .signalLost n) ∧
    (none, Instr.acquireTimerExpiry 0) ∈ State.reset.timers := by decide +kernel

theorem witness_PinResetAndRelease : State.held.resetHeld = true ∧ State.reset.resetHeld = false := by decide

theorem witness_SignalMovesLink :
    (meets { lpe := { signal := true } } fun p => p.lpe.signal) ∧
    (meets {} fun p => !p.lpe.signal && p.lpe.link == .down && p.cfg.enable) ∧
    (meets { cfg := { enable := false } } fun p => !p.lpe.signal && !p.cfg.enable) ∧
    (meets {} fun p => !p.lpe.signal) ∧
    (meets { lpe := { link := .acquiring, signal := true } } fun p => p.lpe.signal && p.lpe.link == .acquiring) ∧
    (meets up fun p => p.lpe.signal && p.lpe.link == .up && p.psc.ps == .active) ∧
    (meets { up with psc := { ps := .waking { selfWake with waitDepth := .dim } } } fun p =>
      p.lpe.signal && p.lpe.link == .up && p.psc.ps == .waking { selfWake with waitDepth := .dim }) ∧
    (meets { lpe := { link := .restart, signal := true } } fun p => p.lpe.signal && p.lpe.link == .restart) ∧
    (meets (inPs .deep .joint) fun p => p.lpe.signal && p.lpe.link == .up && p.psc.ps == .deep) := by decide +kernel

theorem witness_LinkTimersMoveLink :
    (meets { lpe := { link := .acquiring, acquire := some 1000 } } fun p =>
      p.lpe.acquire == some 1000 && p.lpe.link == .acquiring) ∧
    (meets { lpe := { link := .restart, restart := some 2000, signal := true } } fun p =>
      p.lpe.restart == some 2000 && p.lpe.link == .restart && p.cfg.enable && p.lpe.signal) ∧
    (meets { lpe := { link := .restart, restart := some 2000 } } fun p =>
      p.lpe.restart == some 2000 && p.lpe.link == .restart && !p.lpe.signal) := by decide +kernel

theorem witness_LinkLossEffects :
    (meets up fun p => p.txq.flush == none && !p.psc.ps.holdsUnit) ∧
    (meets { withQueue [{ frame with mark := true }] with
        txq := { queue := [{ frame with mark := true }], flush := some { left := 1, next := 1 } } } fun p =>
      p.txq.flush != none) ∧
    (meets (inPs (.waking (newWake .localEnd .deep .deep true false 0 40)) .joint) fun p => p.psc.ps.holdsUnit) := by
  decide +kernel

/-! ## Witnesses: the acts that several commands share -/

theorem witness_SelectionOrder :
    (meets (inPs .dim .awake) fun p => p.psc.ps != .active) ∧
    (meets { up with adu := { up.adu with echoPending := some 15 } } fun p =>
      p.psc.ps == .active && p.lpe.tx == .idle && p.adu.echoPending == some 15) ∧
    (meets { up with adu := { up.adu with advertPending := true, image := some (up.makeImage 1) } } fun p =>
      p.psc.ps == .active && p.lpe.tx == .idle && p.adu.echoPending == none && p.adu.advertPending &&
        p.adu.image == some (up.makeImage 1)) ∧
    (meets (withQueue [frame]) fun p =>
      p.psc.ps == .active && p.lpe.tx == .idle && p.adu.echoPending == none && !p.adu.advertPending &&
        p.txq.queue == [frame] && frame.state == .complete && !frame.mark && frame.release == none) ∧
    (meets (withQueue [{ frame with release := some 1 }]) fun p =>
      p.psc.ps == .active && p.lpe.tx == .idle && p.txq.queue == [{ frame with release := some 1 }]) ∧
    (meets up fun p =>
      p.psc.ps == .active && p.lpe.tx == .idle && p.adu.echoPending == none && !p.adu.advertPending &&
        p.txq.queue == []) := by decide +kernel

theorem witness_IdleTimerFollowsQuiet :
    (meets { up with psc := { up.psc with idleTimer := some 50 } } fun p => p.quiet && p.psc.idleTimer == some 50) ∧
    (meets up fun p => p.quiet && p.psc.idleTimer == none) ∧
    (meets (withQueue [frame]) fun p => !p.quiet) := by decide +kernel

theorem witness_WakeCauseTakesPort :
    (meets up fun p => !p.wakeCause) ∧
    (meets { withQueue [frame] with psc := { ps := .dim } } fun p => p.wakeCause && p.psc.ps == .dim) ∧
    (meets { withQueue [frame] with psc := { ps := .offerDeep } } fun p => p.wakeCause && p.psc.ps == .offerDeep) ∧
    (meets { withQueue [frame] with psc := { ps := .deep } } fun p =>
      p.wakeCause && p.psc.ps == .deep && !p.urgent 0) ∧
    (meets { up with psc := { ps := .deep, force := true } } fun p => p.wakeCause && p.psc.ps == .deep && p.urgent 0) ∧
    (meets { withQueue [frame] with psc := { ps := .offerDormant } } fun p =>
      p.wakeCause && p.psc.ps == .offerDormant) ∧
    (meets { withQueue [frame] with psc := { ps := .dormant } } fun p => p.wakeCause && p.psc.ps == .dormant) ∧
    (meets {} fun p => p.psc.ps == .offline) := by decide +kernel

theorem witness_WithdrawalReturnsToFromDepth :
    (meets { waitingFrom .deep with txq := { queue := [frame] } } fun p => p.psc.ps.isGrantWait && p.wakeCause) ∧
    (meets (waitingFrom .deep) fun p =>
      p.psc.ps == .grantWait { fromDepth := .deep, waitDepth := .deep } && !p.wakeCause) ∧
    (meets (waitingFrom .dormant) fun p =>
      p.psc.ps == .grantWait { fromDepth := .dormant, waitDepth := .dormant } && !p.wakeCause) ∧
    (meets up fun p => !p.psc.ps.isGrantWait) := by decide +kernel

/-- With a count of 0 and W 2 the condition holds, and GRANT grants the entry: its port begins a wake. -/
theorem witness_GrantsWhileCountBelowW :
    let s : State := { at0 (waitingFrom .deep) with wba := { queue := [entry0] } }
    s.resetHeld = false ∧ s.wba.count < s.wba.w ∧ (s.port 0).psc.ps.isGrantWait = true ∧
      (match exec .grant s with
       | .next t => (t.port 0).psc.ps.holdsUnit && t.wba.count == 1 && t.wba.queue == []
       | .fault _ => false
       | .refused _ => false) = true := by decide +kernel

theorem witness_PromotionToUrgentTail :
    let s : State := { at0 { waitingFrom .deep with psc := { (waitingFrom .deep).psc with force := true } } with
      wba := { queue := [{ entry0 with port := 1, cls := .urgent }, entry0] } }
    (s.port 0).psc.force = true ∧ s.wba.queue = [{ entry0 with port := 1, cls := .urgent }] ++ entry0 :: [] ∧
    entry0.port = 0 ∧ entry0.cls = .normal ∧
    (∀ x ∈ [{ entry0 with port := 1, cls := .urgent }] ++ ([] : List WbaEntry), x.port ≠ 0) ∧
    (meets up fun p => !p.urgent 0) ∧
    (∀ e ∈ (at0 up).wba.queue, e.port = 0 → e.cls = .urgent) := by decide +kernel

theorem witness_FailureReportDropsCeiling :
    let at_ (failures : Nat) (c : Depth) : Port := { up with dgv := { ceiling := c, failures := failures } }
    ((at_ 1 .deep).dgv.failures + 1 < (at_ 1 .deep).cfg.failThreshold.toNat) ∧
    ((at_ 2 .none).dgv.failures + 1 = (at_ 2 .none).cfg.failThreshold.toNat) ∧
    ((at_ 2 .dormant).dgv.failures + 1 = (at_ 2 .dormant).cfg.failThreshold.toNat ∧
      (at_ 2 .dormant).dgv.ceiling.level = Depth.deep.level + 1) := by decide

theorem witness_RemovalEffects :
    (meets (withQueue [frame]) fun p => p.txq.queue[0]? == some frame && frame.state != .filling && !frame.mark) ∧
    (meets { up with txq := {
        queue := [frame, { frame with state := .filling, mark := true }], flush := some { left := 1, next := 1 } } }
      fun p => p.txq.queue[1]? == some { frame with state := .filling, mark := true } &&
        p.txq.flush == some { left := 1, next := 1 }) := by decide +kernel

theorem witness_NewHeadSetsWatches :
    let aged (age : BitVec 16) : Port := { withQueue [frame] with cfg := { up.cfg with urgencyAge := age } }
    (meets up fun p => p.txq.queue == []) ∧
    (meets (aged 0) fun p => p.txq.queue == [frame] && p.cfg.urgencyAge == 0) ∧
    (meets (aged 1) fun p => p.txq.queue == [frame] && p.cfg.urgencyAge != 0 && decide (0 < frame.admission + 1)) ∧
    (let s : State := { at0 (aged 1) with now := 1 }
     (s.port 0).txq.queue = [frame] ∧ frame.admission + (s.port 0).cfg.urgencyAge.toNat ≤ s.now) := by decide +kernel

/-! ## Witnesses: control words -/

theorem witness_FillWordReports :
    (meets {} fun p => p.lpe.link != .up) ∧
    (meets (inPs .dim .reviving) fun p => p.psc.rs == .reviving) ∧
    (meets (inPs .deep .joint) fun p => p.psc.rs == .joint) ∧
    (meets { up with lpe := { up.lpe with lastFill := some .idl } } fun p =>
      p.lpe.link == .up && p.psc.rs == .awake && p.lpe.lastFill == some .idl) ∧
    (meets up fun p =>
      p.lpe.link == .up && p.psc.rs == .awake && p.lpe.lastFill != some .idl && p.lpe.lastFill != some .dim) ∧
    (meets (inPs .active .listen) fun p => p.lpe.link == .up && p.psc.rs == .listen) ∧
    (meets { up with lpe := { up.lpe with lastFill := some .dim } } fun p =>
      p.lpe.link == .up && p.psc.rs == .awake && p.lpe.lastFill == some .dim) := by decide +kernel

/-- The hypothesis that an OFD is observed. -/
def seesOfd (p : Port) : Bool := p.lpe.link == .up && (p.psc.rs == .awake || p.psc.rs == .listen)

theorem witness_OfdMeetsPowerState :
    (meets {} fun p => !seesOfd p) ∧
    (meets up fun p => seesOfd p && p.psc.ps == .active) ∧
    (meets { inPs .dim .listen with dgv := {} } fun p => seesOfd p && p.psc.ps == .dim && !p.eligible .deep) ∧
    (meets (inPs .dim .awake) fun p => seesOfd p && p.psc.ps == .dim && p.eligible .deep) ∧
    (meets (inPs .offerDeep .awake) fun p => seesOfd p && p.psc.ps == .offerDeep) ∧
    (meets (inPs (.waking selfWake) .awake) fun p => seesOfd p && p.psc.ps == .waking selfWake) := by decide +kernel

theorem witness_OfmMeetsPowerState :
    (meets (inPs .dim .reviving) fun p => p.psc.rs == .reviving) ∧
    (meets (inPs .dim .listen) fun p => p.lpe.link == .up && p.psc.rs == .listen) ∧
    (meets { inPs .deep .joint with dgv := {} } fun p =>
      p.lpe.link == .up && p.psc.rs == .joint && p.psc.ps == .deep && !p.eligible .dormant) ∧
    (meets (inPs .deep .joint) fun p =>
      p.lpe.link == .up && p.psc.rs == .joint && p.psc.ps == .deep && p.eligible .dormant) ∧
    (meets (inPs .offerDormant .joint) fun p =>
      p.lpe.link == .up && p.psc.rs == .joint && p.psc.ps == .offerDormant) ∧
    (meets (waitingFrom .deep) fun p => p.lpe.link == .up && p.psc.rs == .joint && p.psc.ps.isGrantWait) ∧
    (meets (waitingFrom .dormant) fun p => p.lpe.link == .up && p.psc.rs == .joint && p.psc.ps.isGrantWait) ∧
    (meets (inPs .dormant .joint) fun p => p.lpe.link == .up && p.psc.rs == .joint && p.psc.ps == .dormant) := by
  decide +kernel

theorem witness_RefreshKeepsDeep :
    let deep : Port := { inPs .deep .joint with psc := {
      ps := .deep, rs := .joint, refreshSend := some 10, refreshWatch := some 30 } }
    (meets (inPs .dormant .joint) fun p => p.psc.rs == .joint && !p.psc.ps.refreshes) ∧
    (meets (inPs .dim .listen) fun p => p.lpe.link == .up && p.psc.rs == .listen) ∧
    (meets deep fun p => p.lpe.link == .up && p.psc.rs == .joint && p.psc.ps.refreshes) ∧
    (meets deep fun p => p.psc.refreshSend == some 10 && p.psc.ps.refreshes) ∧
    (meets deep fun p => p.psc.refreshWatch == some 30 && p.lpe.link == .up) ∧
    (meets { deep with lpe := {} } fun p => p.psc.refreshWatch == some 30 && p.lpe.link != .up) := by decide +kernel

/-- The hypothesis that an ALR or RDY is observed. -/
def seesAlr (p : Port) : Bool := p.lpe.link == .up && p.psc.rs != .reviving

theorem witness_AlrAnswered :
    (meets (inPs .dim .reviving) fun p => !seesAlr p) ∧
    (meets (inPs .active .awake) fun p => seesAlr p && p.psc.ps == .active && p.psc.rs == .awake) ∧
    (meets (inPs .offerDeep .listen) fun p => seesAlr p && p.psc.ps == .offerDeep && p.psc.rs == .listen) ∧
    (meets (inPs (.waking (newWake .partner .deep .deep true false 0 40)) .joint) fun p =>
      seesAlr p && p.psc.ps == .waking (newWake .partner .deep .deep true false 0 40)) ∧
    (meets (inPs (.waking selfWake) .awake) fun p =>
      seesAlr p && p.psc.ps == .waking selfWake && selfWake.origin == .localEnd && selfWake.phase == .self) ∧
    (meets (inPs (.waking partnerPhase) .awake) fun p =>
      seesAlr p && p.psc.ps == .waking partnerPhase && partnerPhase.origin == .localEnd &&
        partnerPhase.phase == .partner) := by decide +kernel

theorem witness_AlrStartsPartnerWake :
    (meets (inPs .deep .joint) fun p => seesAlr p && p.psc.ps == .deep) ∧
    (meets (inPs .offerDormant .joint) fun p => seesAlr p && p.psc.ps == .offerDormant) ∧
    (meets (inPs .dormant .joint) fun p => seesAlr p && p.psc.ps == .dormant) ∧
    (meets (waitingFrom .dormant) fun p =>
      seesAlr p && p.psc.ps == .grantWait { fromDepth := .dormant, waitDepth := .dormant }) := by decide +kernel

/-! ## Witnesses: wakes and the timers of the power state -/

theorem witness_SelfPhaseEnds :
    let deep := newWake .localEnd .deep .deep true false 0 40
    let partner := newWake .partner .dormant .dormant true false 0 1500
    (meets (inPs (.waking partner) .joint) fun p =>
      p.psc.ps == .waking partner && partner.selfTimer == some 1500 && partner.origin == .partner) ∧
    (meets (inPs (.waking { selfWake with alertSeen := true }) .awake) fun p =>
      p.psc.ps == .waking { selfWake with alertSeen := true } && selfWake.selfTimer == some 2) ∧
    (meets (inPs (.waking deep) .joint) fun p =>
      p.psc.ps == .waking deep && deep.origin == .localEnd && !deep.alertSeen && deep.selfDepth != .dim &&
        p.psc.ps.holdsUnit) ∧
    (meets (inPs (.waking selfWake) .listen) fun p =>
      p.psc.ps == .waking selfWake && !selfWake.alertSeen && selfWake.selfDepth == .dim && p.psc.rs != .joint) := by
  decide +kernel

theorem witness_RdyOrDeadlineDecidesWake :
    let waited := { partnerPhase with waitTimer := none }
    (meets (inPs (.waking partnerPhase) .reviving) fun p => !seesAlr p) ∧
    (meets (inPs (.waking { partnerPhase with readySeen := true }) .awake) fun p =>
      p.psc.ps == .waking { partnerPhase with readySeen := true }) ∧
    (meets (inPs (.waking partnerPhase) .listen) fun p =>
      seesAlr p && p.psc.ps == .waking partnerPhase && partnerPhase.phase == .partner &&
        partnerPhase.origin == .localEnd && !partnerPhase.readySeen && partnerPhase.waitTimer == some 200) ∧
    (meets (inPs (.waking waited) .joint) fun p =>
      seesAlr p && p.psc.ps == .waking waited && !waited.readySeen && waited.waitTimer == none) ∧
    (meets (inPs (.waking waited) .awake) fun p =>
      p.psc.ps == .waking waited && waited.deadlineTimer == some 250 && p.lpe.link == .up) ∧
    (meets { inPs (.waking waited) .awake with lpe := {} } fun p =>
      p.psc.ps == .waking waited && waited.deadlineTimer == some 250 && p.lpe.link != .up) := by decide +kernel

theorem witness_WaitTimerEndsReadyWake :
    let ready := { partnerPhase with readySeen := true }
    (meets (inPs (.waking ready) .awake) fun p =>
      p.psc.ps == .waking ready && ready.phase == .partner && ready.waitTimer == some 200 && ready.readySeen) ∧
    (meets (inPs (.waking partnerPhase) .awake) fun p =>
      p.psc.ps == .waking partnerPhase && partnerPhase.phase == .partner && partnerPhase.waitTimer == some 200 &&
        !partnerPhase.readySeen) := by decide +kernel

theorem witness_IdleAndDeepExpiriesDescend :
    let idle : Port := { up with psc := { ps := .active, idleTimer := some 50 } }
    let dim : Port := { up with psc := { ps := .dim, deepTimer := some 2050 } }
    (meets { idle with dgv := { ceiling := .none } } fun p =>
      p.psc.idleTimer == some 50 && p.psc.ps == .active && !p.eligible .dim) ∧
    (meets idle fun p => p.psc.idleTimer == some 50 && p.psc.ps == .active && p.eligible .dim && p.psc.offer == none) ∧
    (meets { idle with psc := { idle.psc with offer := some { depth := .deep, expiry := 60 } } } fun p =>
      p.psc.idleTimer == some 50 && p.psc.ps == .active && p.eligible .dim && p.eligible .deep &&
        p.psc.offer == some { depth := .deep, expiry := 60 }) ∧
    (meets { dim with dgv := {} } fun p => p.psc.deepTimer == some 2050 && p.psc.ps == .dim && !p.eligible .deep) ∧
    (meets dim fun p => p.psc.deepTimer == some 2050 && p.psc.ps == .dim && p.eligible .deep) := by decide +kernel

theorem witness_OfferAndDormantExpiriesDescend :
    let deep : Port := { inPs .deep .joint with psc := { ps := .deep, rs := .joint, dormantTimer := some 500000 } }
    (meets { up with psc := { ps := .offerDeep, offerTimer := some 500 } } fun p =>
      p.psc.offerTimer == some 500 && p.psc.ps == .offerDeep) ∧
    (meets { up with psc := { ps := .offerDormant, rs := .joint, offerTimer := some 500 } } fun p =>
      p.psc.offerTimer == some 500 && p.psc.ps == .offerDormant) ∧
    (meets { deep with dgv := {} } fun p =>
      p.psc.dormantTimer == some 500000 && p.psc.ps == .deep && !p.eligible .dormant) ∧
    (meets { deep with psc := { deep.psc with offer := some { depth := .dormant, expiry := 500001 } } } fun p =>
      p.psc.dormantTimer == some 500000 && p.psc.ps == .deep && p.eligible .dormant &&
        p.psc.offer == some { depth := .dormant, expiry := 500001 }) ∧
    (meets deep fun p =>
      p.psc.dormantTimer == some 500000 && p.psc.ps == .deep && p.eligible .dormant && p.psc.offer == none) := by
  decide +kernel

theorem witness_SingleEffectExpiries :
    (meets { up with psc := { up.psc with offer := some { depth := .deep, expiry := 5 } } } fun p =>
      p.psc.offer == some { depth := .deep, expiry := 5 }) ∧
    (meets { up with psc := { up.psc with rs := .reviving, revival := some { cause := .alr, expiry := 2 } } } fun p =>
      p.psc.revival == some { cause := .alr, expiry := 2 }) ∧
    (meets { up with txq := { queue := [{ frame with release := some 5 }], releaseWatch := some 5 } } fun p =>
      p.txq.releaseWatch == some 5) ∧
    (meets { up with txq := { queue := [frame], urgencyWatch := some 5 } } fun p => p.txq.urgencyWatch == some 5) := by
  decide +kernel

/-! ## Witnesses: frames received -/

theorem witness_FrameStartSorted :
    (meets {} fun p => p.lpe.link != .up) ∧
    (meets (inPs .dim .listen) fun p => p.lpe.link == .up && p.psc.rs == .listen) ∧
    (meets up fun p => p.lpe.link == .up && p.psc.rs == .awake) ∧
    ((0x01 : Byte) = 1 ∧ (0x03 : Byte) = 3 ∧ 3 < (0x04 : Byte).toNat) := by decide +kernel

theorem witness_FrameDeliveredAndClosed :
    let h : RxHeader := { length := 64, tag := 7 }
    let rx (f : Option RxFrame) : Port := { up with ssp := { rx := f } }
    (meets (rx (some (.data (some h) 2047 0))) fun p => p.ssp.rx == some (.data (some h) 2047 0)) ∧
    (meets (rx (some (.data (some h) 2048 0))) fun p => p.ssp.rx == some (.data (some h) 2048 0)) ∧
    (meets (rx (some (.data (some h) 64 0x1234))) fun p =>
      p.ssp.rx == some (.data (some h) 64 0x1234) && h.length.toNat == 64 &&
        RxEnd.normal 0x12 0x34 == .normal ((0x1234 : BitVec 16).extractLsb' 8 8) ((0x1234 : BitVec 16).extractLsb' 0 8)) ∧
    (meets (rx (some (.data (some h) 63 0x1234))) fun p =>
      p.ssp.rx == some (.data (some h) 63 0x1234) && h.length.toNat != 63) ∧
    (meets (rx (some (.data none 0 0xFFFF))) fun p => p.ssp.rx == some (.data none 0 0xFFFF)) ∧
    (meets (rx (some .management)) fun p => p.ssp.rx == some .management) ∧
    (meets (rx (some .ignored)) fun p => p.ssp.rx == some .ignored) ∧
    (meets up fun p => p.ssp.rx == none) := by decide +kernel

theorem witness_AdvertReplacesPartner :
    (meets (inPs .dim .listen) fun p => p.psc.rs != .awake) ∧
    (meets up fun p => p.lpe.link == .up && p.psc.rs == .awake) ∧
    (meets { up with ssp := { rx := some (.data none 0 0) } } fun p =>
      p.lpe.link == .up && p.psc.rs == .awake && delivering p.ssp.rx) ∧
    ([] : List Byte).length ≠ 8 ∧ (0 : BitVec 16) ≠ crcBytes 0xFFFF (0x02 :: List.replicate 8 0) ∧
    (meets (inPs .offerDeep .awake) fun p =>
      p.lpe.link == .up && p.psc.rs == .awake && p.psc.ps == .offerDeep) ∧
    (meets (inPs .dim .awake) fun p => p.lpe.link == .up && p.psc.rs == .awake && p.psc.ps == .dim) ∧
    (1 ≤ (1 : BitVec 16).toNat ∧ (1 : BitVec 16).toNat ≤ (1 : BitVec 16).toNat ∧ 1 ≤ (100 : Byte).toNat ∧
      (100 : Byte).toNat ≤ 100) ∧
    ¬ (101 : Byte).toNat ≤ 100 := by decide +kernel

theorem witness_EchoOrTimeoutMovesExchange :
    let sent (retry : Nat) : Port := { up with adu := {
      up.adu with state := .pending, seq := 1, retry := retry, echoTimer := some 2000 } }
    (meets (inPs .dim .listen) fun p => p.psc.rs != .awake) ∧
    (meets (sent 0) fun p =>
      p.lpe.link == .up && p.psc.rs == .awake && p.adu.state == .pending && p.adu.seq == 1) ∧
    ([] : List Byte).length ≠ 1 ∧ (0 : BitVec 16) ≠ crcBytes 0xFFFF [0x03, 0x50] ∧
    (meets up fun p => p.lpe.link == .up && p.psc.rs == .awake && p.adu.state != .pending) ∧
    (meets (sent 2) fun p =>
      p.adu.echoTimer == some 2000 && p.adu.state == .pending && decide (p.adu.retry < 3)) ∧
    (meets (sent 3) fun p =>
      p.adu.echoTimer == some 2000 && p.adu.state == .pending && decide (3 ≤ p.adu.retry)) := by decide +kernel

/-! ## Witnesses: ingress and the queue -/

/-- A frame of 64 bytes in progress on this route with `count` bytes arrived. -/
def inProgress (r : Route) (count : Nat) : Ingress where
  route := r
  length := 64
  tag := 7
  count := count

/-- A port with a frame that is being filled. -/
def filling (count : Nat) : Port := { withQueue [frame, { frame with state := .filling }] with
  ssp := { ingress := some (inProgress .queued count) } }

/-- A port with a bypass frame in progress. -/
def bypassing (count : Nat) : Port := { up with
  lpe := { up.lpe with tx := .busy (.bypass .running) 0 }, ssp := { ingress := some (inProgress .bypass count) } }

theorem witness_EarlierFrameAborted :
    (meets up fun p => p.ssp.ingress == none) ∧
    (meets { up with ssp := { ingress := some (inProgress .ignore 1) } } fun p =>
      p.ssp.ingress == some (inProgress .ignore 1)) ∧
    (meets (bypassing 1) fun p =>
      p.ssp.ingress == some (inProgress .bypass 1) && p.lpe.tx == .busy (.bypass .running) 0) ∧
    (meets (filling 1) fun p =>
      p.ssp.ingress == some (inProgress .queued 1) && p.txq.queue == [frame] ++ [{ frame with state := .filling }] &&
        frame.state != .filling) := by decide +kernel

theorem witness_IngressFrameDecided :
    ((State.reset.port 0).lpe.link ≠ .up) ∧
    (let s := at0 { up with txq := { flush := some { left := 1, next := 1 } } }
     (s.endEarlier 0).holdoff 0 = true ∧ ((s.endEarlier 0).port 0).lpe.link = .up) ∧
    (let s := at0 up
     (s.endEarlier 0).holdoff 0 = false ∧ ((s.endEarlier 0).port 0).lpe.link = .up ∧
       ((s.endEarlier 0).port 0).mayBypass = true) ∧
    (let s := at0 (inPs .dim .awake)
     (s.endEarlier 0).holdoff 0 = false ∧ ((s.endEarlier 0).port 0).mayBypass = false) ∧
    ((63 : Word).extractLsb' 0 12).toNat < 64 ∧ 2048 < ((2049 : Word).extractLsb' 0 12).toNat ∧
    64 ≤ ((64 : Word).extractLsb' 0 12).toNat ∧ ((2048 : Word).extractLsb' 0 12).toNat ≤ 2048 := by decide +kernel

theorem witness_IngressByteStored :
    (meets up fun p => p.ssp.ingress == none) ∧
    (meets { up with ssp := { ingress := some (inProgress .ignore 0) } } fun p =>
      p.ssp.ingress == some (inProgress .ignore 0)) ∧
    (meets (bypassing 64) fun p =>
      p.ssp.ingress == some (inProgress .bypass 64) && decide ((inProgress .bypass 64).length ≤ 64)) ∧
    (meets (bypassing 63) fun p =>
      p.ssp.ingress == some (inProgress .bypass 63) && p.lpe.tx == .busy (.bypass .running) 0) ∧
    (meets (filling 63) fun p =>
      p.ssp.ingress == some (inProgress .queued 63) && p.txq.queue == [frame] ++ [{ frame with state := .filling }] &&
        frame.state != .filling && frame.cells[63 / 128]? == some 0) ∧
    Memory.wf State.reset.pool.data := by decide +kernel

theorem witness_IngressFrameEnds :
    (meets up fun p => p.ssp.ingress == none) ∧
    (meets { up with ssp := { ingress := some (inProgress .ignore 0) } } fun p =>
      p.ssp.ingress == some (inProgress .ignore 0)) ∧
    (meets (bypassing 64) fun p =>
      p.ssp.ingress == some (inProgress .bypass 64) && p.lpe.tx == .busy (.bypass .running) 0) ∧
    (meets (filling 64) fun p =>
      p.ssp.ingress == some (inProgress .queued 64) && p.txq.queue == [frame] ++ [{ frame with state := .filling }] &&
        frame.state != .filling) ∧
    ((0 : Word).getLsbD 31 = false ∧ (inProgress .queued 64).count = (inProgress .queued 64).length) ∧
    (0x80000000 : Word).getLsbD 31 = true := by decide +kernel

theorem witness_TransmissionCompletes :
    let busy (k : TxKind) : Port := { up with lpe := { up.lpe with tx := .busy k 0 } }
    let head := { frame with state := FrameState.transmitting }
    (meets up fun p => p.lpe.tx == .idle) ∧
    (meets (busy (.bypass .running)) fun p => p.lpe.tx == .busy (.bypass .running) 0) ∧
    (meets (busy (.bypass .clean)) fun p => p.lpe.tx == .busy (.bypass .clean) 0) ∧
    (meets (busy (.bypass .errored)) fun p => p.lpe.tx == .busy (.bypass .errored) 0) ∧
    (meets { busy .queued with txq := { queue := [head] } } fun p =>
      p.lpe.tx == .busy .queued 0 && p.txq.queue == [head] && head.state == .transmitting) ∧
    (meets (busy .echo) fun p => p.lpe.tx == .busy .echo 0) ∧
    (meets { busy (.advert 1) with adu := { up.adu with state := .pending } } fun p =>
      p.lpe.tx == .busy (.advert 1) 0 && p.adu.state == .pending && p.adu.seq == 1) ∧
    (meets (busy (.advert 1)) fun p => p.lpe.tx == .busy (.advert 1) 0 && p.adu.state != .pending) := by
  decide +kernel

theorem witness_AgingRemovesCandidates :
    (meets { up with txq := { queue := [frame], agingDeadline := some 1000 } } fun p =>
      p.txq.agingDeadline == some 1000 && p.txq.queue == [frame] && frame.state != .transmitting) := by decide +kernel

theorem witness_FlushMarksThenRemoves :
    let marked := { frame with mark := true }
    (meets up fun p => !p.slot.busy && p.txq.queue == []) ∧
    (meets (withQueue [frame]) fun p => !p.slot.busy && p.txq.queue == [frame] && frame.state != .transmitting) ∧
    (meets { up with txq := { queue := [frame, marked], flush := some { left := 1, next := 1 } } } fun p =>
      p.txq.flush == some { left := 1, next := 1 } && p.txq.queue == [frame] ++ marked :: [] && marked.mark &&
        !frame.mark) := by decide +kernel

/-! ## Witnesses: governor, commands and window -/

theorem witness_RestoreAndResidencyExpiries :
    (meets { up with dgv := { ceiling := .deep, restore := some 10 } } fun p =>
      p.dgv.restore == some 10 && Depth.dormant.level == p.dgv.ceiling.level + 1 &&
        decide (Depth.dormant.level ≤ p.cfg.maxCeiling.level)) ∧
    (meets up fun p => p.dgv.restore == some 10000000 && decide (p.cfg.maxCeiling.level ≤ p.dgv.ceiling.level)) ∧
    State.reset.dev.residency = some 100 := by decide +kernel

theorem witness_SlotDecisions :
    (meets { up with slot := { busy := true } } fun p => p.slot.busy) ∧ (meets up fun p => !p.slot.busy) := by
  decide +kernel

theorem witness_ApplyTakesStaging :
    let on : Port := { up with staging := up.cfg }
    let off : Port := { up with staging := { up.cfg with enable := false } }
    let again : Port := { cfg := { enable := false } }
    (at0 on).stagingValid 0 = true ∧ (at0 on).applyRefusal 0 = none ∧ on.cfg.enable = on.staging.enable ∧
    (at0 { up with staging := { up.cfg with failThreshold := 9 } }).applyRefusal 0 = some .invalid ∧
    (at0 { withQueue [frame] with staging := { up.cfg with reserve := 129 } }).applyRefusal 0 = some .notIdle ∧
    (at0 off).applyRefusal 0 = none ∧ off.cfg.enable = true ∧ off.staging.enable = false ∧
    (at0 again).applyRefusal 0 = none ∧ again.cfg.enable = false ∧ again.staging.enable = true ∧
    (meets on fun p => !p.slot.busy) := by decide +kernel

theorem witness_ForceWakeSetsCause :
    (meets {} fun p => !p.slot.busy && p.lpe.link != .up) ∧
    (meets up fun p => !p.slot.busy && p.lpe.link == .up && p.psc.ps == .active) ∧
    (meets (waitingFrom .deep) fun p => !p.slot.busy && p.lpe.link == .up && p.psc.ps.isGrantWait) ∧
    (meets (inPs .dim .awake) fun p => !p.slot.busy && p.lpe.link == .up && p.psc.ps == .dim) := by decide +kernel

theorem witness_SendAdvertStartsExchange :
    let least : LaRecord := { tDim := 2, tDeep := 40, tDormant := 1500 }
    (meets { up with adu := { up.adu with laStaging := { least with tDim := 1 } } } fun p =>
      !p.slot.busy && !p.adu.laStaging.acceptable) ∧
    (meets { up with adu := { up.adu with laStaging := least, state := .pending } } fun p =>
      !p.slot.busy && p.adu.laStaging.acceptable && p.adu.state == .pending) ∧
    (meets { adu := { laStaging := least } } fun p =>
      !p.slot.busy && p.adu.laStaging.acceptable && p.adu.state == .unsent) ∧
    (meets { up with adu := { up.adu with laStaging := least } } fun p =>
      !p.slot.busy && p.adu.laStaging.acceptable && p.adu.state == .echoed) := by decide +kernel

/-- A reset finds an UP link, one that is not UP, a refresh watch at its end, and the deadline of a wake at its end. -/
theorem witness_PortResetEffects :
    let deep : Port := { up with psc := { ps := .deep, rs := .joint, refreshWatch := some 0 } }
    let late : Port := inPs (.waking { partnerPhase with deadlineTimer := some 0 }) .awake
    (meets up fun p => p.lpe.link == .up) ∧ (meets {} fun p => p.lpe.link != .up) ∧
    (meets deep fun p => p.lpe.link == .up && isDue (at0 deep).now p.psc.refreshWatch) ∧
    (meets late fun p => p.lpe.link == .up && isDue (at0 late).now p.psc.ps.deadlineTimer) := by decide +kernel

theorem witness_WriteOfW :
    State.reset.resetHeld = false ∧ (1 ≤ (8 : Word).toNat ∧ (8 : Word).toNat ≤ 8) ∧ 8 < (9 : Word).toNat ∧
    (1 : Word).toNat ≤ ({ State.reset with wba := { count := 1 } } : State).wba.count := by decide +kernel

theorem witness_WriteOfPoolLow : State.reset.resetHeld = false ∧ State.reset.pool.low ≤ 4096 := by decide +kernel

theorem witness_WindowAccesses :
    (0x02C % 4 = 0 ∧ 0x202 % 4 ≠ 0 ∧ (0xFFC : BitVec 12).toNat = 0xFFC) ∧ (0x2BC % 0x100 = 0xBC ∧ 0x220 % 0x100 = 0x20) ∧
    (0b0111 : BitVec 4) ≠ 0b1111 ∧ State.reset.resetHeld = false ∧ State.reset.wba.queue[7]? = none ∧
    ({ State.reset with wba := { queue := [entry0] } } : State).wba.queue[0]? = some entry0 ∧
    (1 : Word).toNat = 1 ∧ (7 : Word).toNat = 7 ∧ (8 : Word).toNat = 8 ∧ (2 : Word) ≠ 1 := by decide +kernel

/-- The first and last unmapped and read-only offsets of each page, by the tables of chapter 11 (R181 to R187). -/
theorem test_locate_edges :
    ([0x02C, 0x0FC, 0x140, 0x1FC, 0x278, 0x27C, 0x2BC, 0x2E0, 0x9FC, 0xA00, 0xFFC].all fun a => (locate a).isNone) ∧
    ([0x000, 0x028, 0x100, 0x13C, 0x220, 0x23C, 0x264, 0x26C, 0x280, 0x9DC].all fun a =>
      match locate a with
      | some l => l.access == .ro
      | none => false) := by decide +kernel

/-! ## Witnesses: the laws, in a device with port 0 UP -/

theorem port_at0 (p : Port) (n : PortId) : (at0 p).port n = if n = 0 then p else {} := by
  unfold at0
  by_cases h : n = 0
  · subst h; simp
  · rw [State.port_setPort_ne _ h, if_neg h]
    exact Vector.getElem_replicate _

/-- A port is the one given or a port after reset. -/
theorem forall_at0 {P : Port → Prop} (p : Port) (h : P p) (k : P {}) : ∀ n, P ((at0 p).port n) := by
  intro n
  rw [port_at0]
  split
  · exact h
  · exact k

theorem witness_link_law : (at0 up).LinkLaw := by
  refine ⟨forall_at0 up ?_ ?_, fun h => absurd h (by decide +kernel)⟩ <;> constructor <;> simp [up, Adu.linkLost]

theorem witness_sleep_law : (at0 up).SleepLaw := by
  refine forall_at0 up ?_ ?_ <;> constructor <;> simp [up, PS.joint, PS.needsPartner, PS.refreshes]

theorem witness_governor_law : (at0 up).GovernorLaw := by
  refine forall_at0 up ?_ ?_ <;> constructor <;> decide

theorem witness_queue_law : (at0 up).QueueLaw := by
  refine forall_at0 up ?_ ?_ <;> constructor <;> simp [up]

theorem witness_pool_law : (at0 up).PoolLaw := by
  refine ⟨by decide +kernel, ?_⟩
  have h : ∀ n, ((at0 up).port n).txq.queue = [] := forall_at0 (P := fun p => p.txq.queue = []) up rfl rfl
  have hf : (at0 up).pool.free = allCells := rfl
  have hn : (allPorts.flatMap fun _ => ([] : List CellNo)) = [] := by decide
  simp only [hf, h, List.flatMap_nil, hn, List.append_nil]
  exact .refl _

theorem witness_quota_law : (at0 up).QuotaLaw := ⟨by decide +kernel, by decide +kernel⟩

theorem witness_arbiter_law : (at0 up).ArbiterLaw where
  budget := by decide +kernel
  count := by decide +kernel
  nodup := by decide +kernel
  entry := by intro e he; exact absurd (show e ∈ ([] : List WbaEntry) from he) (by simp)
  waiting := by decide +kernel
  order := by decide +kernel
  full := by decide +kernel

/-- The premises of the invariants together, at a state whose step takes a command. -/
theorem witness_StepKeepsLaws :
    (at0 up).LinkLaw ∧ (at0 up).SleepLaw ∧ (at0 up).GovernorLaw ∧ (at0 up).QueueLaw ∧ (at0 up).PoolLaw ∧
      (at0 up).QuotaLaw ∧ (at0 up).ArbiterLaw ∧ ∃ t, step { at0 up with pending := [.receiveIdl 0] } = .next t :=
  ⟨witness_link_law, witness_sleep_law, witness_governor_law, witness_queue_law, witness_pool_law, witness_quota_law,
    witness_arbiter_law, ⟨_, rfl⟩⟩

/-- A queue with a frame on the line and a COMPLETE one behind it keeps the queue law. -/
theorem witness_queue_law_nonempty :
    (at0 { withQueue [{ frame with state := .transmitting }, { frame with cells := [1] }] with
      lpe := { up.lpe with tx := .busy .queued 0 } }).QueueLaw := by
  refine forall_at0 _ ?_ ?_ <;> constructor <;> simp [withQueue, up, frame]

/-- The premises of SoftResetEffects. -/
theorem witness_SoftResetEffects : (at0 up).resetHeld = false ∧ (at0 up).LinkLaw :=
  ⟨by decide +kernel, witness_link_law⟩

end Sys2Proof.Machine.Tests
end

section
/-! Waking (chapter 3): the expiry of the wait timer of a wake. -/

namespace Sys2Proof.Machine

/-- A command of a device out of reset is taken (R170). -/
theorem running_of_released {s : State} (h : s.resetHeld = false) (f : State → State) : running s f = .next (f s) := by
  simp [running, h]

/-- A running timer expires at its expiry on the time base (log entry 2). -/
theorem onExpiry_of_running {timer : Option Nat} {t : Nat} (h : timer = some t) (f : State → State) (s : State) :
    onExpiry timer f s = f (s.reach t) := by
  rw [h, onExpiry]

/-- The wake in phase PARTNER is the one in progress. -/
theorem PS.partnerPhase_waking {w : WakeRecord} (h : w.phase = .partner) : (PS.waking w).partnerPhase = some w := by
  simp [PS.partnerPhase, h]

/-- WAIT_TIMER_EXPIRY with the wait timer running, out of reset. -/
theorem exec_waitTimerExpiry_of_running {n : PortId} {s : State} {t : Nat} (hr : s.resetHeld = false)
    (ht : (s.port n).psc.ps.waitTimer = some t) :
    exec (.waitTimerExpiry n) s = .next ((s.reach t).waitExpiry n) := by
  calc exec (.waitTimerExpiry n) s
    _ = running s fun s => onExpiry (s.port n).psc.ps.waitTimer (State.waitExpiry n) s := rfl
    _ = .next (onExpiry (s.port n).psc.ps.waitTimer (State.waitExpiry n) s) := running_of_released hr _
    _ = .next ((s.reach t).waitExpiry n) := by rw [onExpiry_of_running ht]

/-- The power state a port is given before the end of its wake leaves nothing behind (R60). -/
theorem State.endWake_modPort_setPs (n : PortId) (x : PS) (s : State) :
    (s.modPort n (Port.setPs x)).endWake n = s.endWake n := by
  have hport : (fun p => (Port.setPs x p).wakeEnd) = Port.wakeEnd := rfl
  rw [State.endWake, State.modPort_modPort, hport, State.endWake]

/-- At the expiry of the wait timer in phase PARTNER a wake with ready-seen set ends, and one with it clear stays with
the wait timer stopped (R56). -/
theorem State.waitExpiry_of_partner {n : PortId} {s : State} {w : WakeRecord} (hps : (s.port n).psc.ps = .waking w)
    (hph : w.phase = .partner) :
    s.waitExpiry n =
      if w.readySeen then s.endWake n else s.modPort n (Port.setPs (.waking { w with waitTimer := none })) := by
  rw [State.waitExpiry, hps, PS.partnerPhase_waking hph]
  simp only [State.endWake_modPort_setPs]

/-- Settles O27: a wake with ready-seen set ends as every wake does (`Port.wakeEnd_eq`), and in one with it clear the
wait timer alone changes. -/
theorem waitTimerEndsReadyWake : Obligations.WaitTimerEndsReadyWake := by
  intro n s w t hr p hps hph ht
  have hexpire : exec (.waitTimerExpiry n) s = .next ((s.reach t).waitExpiry n) :=
    exec_waitTimerExpiry_of_running hr (by rw [hps]; exact ht)
  have hdecide := State.waitExpiry_of_partner (s := s.reach t) hps hph
  constructor <;> intro hready <;> rw [hexpire, hdecide, hready]
  case left => rw [if_pos rfl, State.endWake, State.modPort, Port.wakeEnd_eq, State.port_reach]
  case right => rw [if_neg Bool.false_ne_true, State.modPort, Port.setPs, State.port_reach]

end Sys2Proof.Machine
end

section
/-! The wake budget arbiter (chapter 4): a partner-started SELF phase, and a write of W. -/

namespace Sys2Proof.Machine

/-! ## What a test of the grant condition leaves -/

/-- No grant touches W (R74). -/
theorem Grants.w_eq {s t : State} (h : Grants s t) : t.wba.w = s.wba.w := by
  induction h with
  | stop s hstop => rfl
  | grant s t e rest r hcount hqueue hps hrest ih => rw [ih, State.setPort_wba]
  | skip s t e rest hcount hqueue hps hrest ih => exact ih

/-- The grants go on until the grant condition is false (R74). -/
theorem Grants.condition_false {s t : State} (h : Grants s t) : t.wba.w ≤ t.wba.count ∨ t.wba.queue = [] := by
  induction h with
  | stop s hstop => exact hstop
  | grant s t e rest r hcount hqueue hps hrest ih => exact ih
  | skip s t e rest hcount hqueue hps hrest ih => exact ih

/-- From a state whose grant condition is false nothing is granted (R74). -/
theorem Grants.eq_of_condition_false {s t : State} (h : Grants s t)
    (hfalse : s.wba.w ≤ s.wba.count ∨ s.wba.queue = []) : t = s := by
  have no_room_for {e : WbaEntry} {rest : List WbaEntry} (hcount : s.wba.count < s.wba.w)
      (hqueue : s.wba.queue = e :: rest) : False := by
    rcases hfalse with hfull | hempty
    · exact hcount.not_ge hfull
    · exact List.cons_ne_nil e rest (hqueue.symm.trans hempty)
  cases h with
  | stop _ hstop => rfl
  | grant _ _ e rest r hcount hqueue hps hrest => exact (no_room_for hcount hqueue).elim
  | skip _ _ e rest hcount hqueue hps hrest => exact (no_room_for hcount hqueue).elim

/-! ## The partner-started SELF phase -/

/-- The partner's unit: the count rises by one, BUDGET_EXCEEDED is set and counted where it stood at or above W, and the
grants of the test follow (R76). -/
theorem State.partnerUnit_grants (s : State) :
    Grants { s with
      wba := { s.wba with count := s.wba.count + 1 }
      dev := if s.wba.w ≤ s.wba.count then
          { s.dev with
            flags := s.dev.flags ||| BitVec.twoPow 3 1, budgetExceeded := satAdd s.dev.budgetExceeded 1 }
        else s.dev } s.partnerUnit := by
  unfold State.partnerUnit
  by_cases hexceeded : s.wba.w ≤ s.wba.count
  · simp only [if_pos hexceeded, ← satInc_eq_satAdd]
    exact State.testGrant_grants _
  · simp only [if_neg hexceeded]
    exact State.testGrant_grants _

/-- RECEIVE_ALR with the link UP and out of REVIVING reaches PSC n (R14). -/
theorem exec_receiveAlr_of_observed {n : PortId} {s : State} (hr : s.resetHeld = false)
    (hup : (s.port n).lpe.link = .up) (hrs : (s.port n).psc.rs ≠ .reviving) :
    exec (.receiveAlr n) s = .next (s.takeAlr n) := by
  calc exec (.receiveAlr n) s
    _ = running s (State.hearAlr n) := rfl
    _ = .next (s.hearAlr n) := running_of_released hr _
    _ = .next (s.takeAlr n) := by rw [State.hearAlr, if_pos ⟨hup, hrs⟩]

/-- In a joint depth and in GRANT-WAIT an ALR starts a PARTNER wake from the depth the port is in (R49, R57). -/
theorem State.takeAlr_of_joint {n : PortId} {s : State} {depth : JointDepth}
    (h : ((s.port n).psc.ps = .deep ∧ depth = .deep) ∨ ((s.port n).psc.ps = .offerDormant ∧ depth = .deep) ∨
      ((s.port n).psc.ps = .dormant ∧ depth = .dormant) ∨
      (∃ r, (s.port n).psc.ps = .grantWait r ∧ depth = r.fromDepth)) :
    s.takeAlr n = (s.modPort n (Port.setOffer none)).partnerWake n depth := by
  obtain ⟨hps, rfl⟩ | ⟨hps, rfl⟩ | ⟨hps, rfl⟩ | ⟨r, hps, rfl⟩ := h <;>
    simp only [State.takeAlr, State.port_modPort_same, Port.setOffer_psc, hps]

/-- A PARTNER wake: the port's entry leaves the queue, the wake begins, and its unit is added (R49, R76), on a
port whose partner-offer-pending record was cleared before (R30). -/
theorem State.partnerWake_of_offer_cleared (n : PortId) (depth : JointDepth) (s : State) :
    (s.modPort n (Port.setOffer none)).partnerWake n depth =
      ((s.setPort n (((s.port n).setOffer none).beginPartner s.now depth)).modWba (Wba.remove n)).partnerUnit := by
  have hcommute : (s.modPort n (Port.setOffer none)).modWba (Wba.remove n) =
      (s.modWba (Wba.remove n)).modPort n (Port.setOffer none) := rfl
  rw [State.partnerWake, hcommute, State.modPort_modPort]
  rfl

/-- Settles O24: the ALR starts a PARTNER wake (`State.takeAlr_of_joint`), whose unit is added with the grants of the
test (`State.partnerUnit_grants`). -/
theorem alrStartsPartnerWake : Obligations.AlrStartsPartnerWake := by
  intro n s depth hr p hup hrs hdepth exceeded woken
  have hport : (Port.setOffer none p).beginPartner s.now depth = woken := by
    rw [Port.beginPartner_eq, JointDepth.selfWake_toSleep]
    rfl
  refine ⟨_, ?_, State.partnerUnit_grants ((s.setPort n woken).modWba (Wba.remove n))⟩
  rw [exec_receiveAlr_of_observed hr hup hrs, State.takeAlr_of_joint hdepth, State.partnerWake_of_offer_cleared, hport]

/-! ## A write of W -/

/-- A word from 1 to 8 replaces W, with the test of the grant condition (R70). -/
theorem State.writeW_of_valid {value : Word} (h1 : 1 ≤ value.toNat) (h8 : value.toNat ≤ 8) (s : State) :
    s.writeW value = ({ s with wba := { s.wba with w := value.toNat } } : State).testGrant :=
  if_pos ⟨h1, h8⟩

/-- Any other word is a faulty access (R70). -/
theorem State.writeW_of_invalid {value : Word} (h : value.toNat = 0 ∨ 8 < value.toNat) (s : State) :
    s.writeW value = s.accessError :=
  if_neg (by omega)

/-- WRITE_W out of reset. -/
theorem exec_writeW_of_released {s : State} (hr : s.resetHeld = false) (value : Word) :
    exec (.writeW value) s = .next (s.writeW value) :=
  running_of_released hr _

/-- WBUDGET stands at the fourth word of the device page (R183). -/
theorem locate_wbudget : locate 0x00C = some .wbudget := rfl

/-- The four bits of WBUDGET hold every W up to 8 (R183). -/
theorem State.readWord_wbudget {s : State} (h : s.wba.w ≤ 8) : s.readWord 0x00C = BitVec.ofNat 32 s.wba.w := by
  rw [State.readWord, locate_wbudget]
  apply BitVec.eq_of_toNat_eq
  simp [State.valueAt, place]
  omega

/-- A read of WBUDGET out of reset (R182). -/
theorem exec_read_wbudget {s : State} (hr : s.resetHeld = false) (h : s.wba.w ≤ 8) :
    exec (.faultyAccess (.read 0x00C)) s = .next { s with readData := BitVec.ofNat 32 s.wba.w } := by
  calc exec (.faultyAccess (.read 0x00C)) s
    _ = running s (State.hostRead 0x00C) := rfl
    _ = .next (s.hostRead 0x00C) := running_of_released hr _
    _ = .next { s with readData := BitVec.ofNat 32 s.wba.w } := by
      rw [State.hostRead, State.readWord_wbudget h, locate_wbudget]
      rfl

/-- Settles O51: the grants of the test keep W and end with the condition false (`Grants.w_eq`,
`Grants.condition_false`), and there are none where it is false already (`Grants.eq_of_condition_false`). -/
theorem writeOfW : Obligations.WriteOfW := by
  intro value s hr w written
  rw [exec_writeW_of_released hr]
  have hgrants : Grants written written.testGrant := written.testGrant_grants
  refine ⟨fun h1 h8 => ?replaced, fun h1 h8 hstill => ?still, fun hinvalid => ?ignored, fun hlaw => ?read⟩
  case replaced =>
    have hw : written.testGrant.wba.w = w := hgrants.w_eq
    refine ⟨written.testGrant, by rw [State.writeW_of_valid h1 h8], hgrants, hw, ?_⟩
    rw [← hw]
    exact hgrants.condition_false
  case still =>
    have hfalse : written.wba.w ≤ written.wba.count ∨ written.wba.queue = [] := by
      obtain hroom | ⟨hsame, hlaw⟩ := hstill
      · exact .inl hroom
      · exact hlaw.full.symm.imp_left hsame.trans_le
    rw [State.writeW_of_valid h1 h8, hgrants.eq_of_condition_false hfalse]
  case ignored => rw [State.writeW_of_invalid hinvalid]; rfl
  case read => exact exec_read_wbudget hr hlaw.budget.2

end Sys2Proof.Machine
end

section
/-! Depth governor (chapter 8): a failure report, RESTORE_CEILING, and the decision at the command slot. -/

namespace Sys2Proof.Machine

/-! ## A failure report -/

/-- The failure as it is counted, before the counter is compared with fail_threshold (R143). -/
def Port.countFailure (now : Nat) (p : Port) : Port :=
  { p with dgv := { p.dgv with
      failures := p.dgv.failures + 1
      restore := if p.lpe.link = .up then some (now + p.cfg.restorePeriod.toNat * 1000000) else p.dgv.restore } }

/-- A failure report counts the failure, and takes the drop where the counter reaches the threshold (R143). -/
theorem Port.failure_eq (now : Nat) (p : Port) :
    p.failure now =
      if p.cfg.failThreshold.toNat ≤ p.dgv.failures + 1 then (p.countFailure now).drop else p.countFailure now := by
  by_cases hup : p.lpe.link = .up
  case pos => simp only [Port.failure, Port.countFailure, if_pos hup]; rfl
  case neg => simp only [Port.failure, Port.countFailure, if_neg hup]

/-- One level lower is the depth whose level is one less (R144). -/
theorem Depth.lower_of_level {c d : Depth} (h : c.level = d.level + 1) : c.lower = d := by
  match c, d, h with
  | .dormant, .deep, _ | .deep, .dim, _ | .dim, .none, _ => rfl

/-- A drop at a ceiling of NONE clears the counter alone (R144). -/
theorem Port.drop_of_none {p : Port} (h : p.dgv.ceiling = .none) :
    p.drop = { p with dgv := { p.dgv with ceiling := .none, failures := 0 } } := by
  rw [Port.drop, if_pos h, h, Depth.lower]

/-- A drop at any other ceiling takes it one level down, with CEILING_DOWN (R144). -/
theorem Port.drop_of_level {p : Port} {d : Depth} (h : p.dgv.ceiling.level = d.level + 1) :
    p.drop = { p with
      dgv := { p.dgv with ceiling := d, failures := 0 }
      flags := p.flags ||| BitVec.twoPow 11 5 } := by
  have hraised : p.dgv.ceiling ≠ .none := by
    intro hnone
    rw [hnone] at h
    exact absurd h (Nat.succ_ne_zero d.level).symm
  rw [Port.drop, if_neg hraised, Depth.lower_of_level h, Port.raise, PortFlag.bit]

/-- Settles O16: the counted failure (`Port.failure_eq`) either stays below the threshold or takes the drop, at a
ceiling of NONE (`Port.drop_of_none`) or above it (`Port.drop_of_level`). -/
theorem failureReportDropsCeiling : Obligations.FailureReportDropsCeiling := by
  intro now p _ restore
  rw [Port.failure_eq]
  refine ⟨fun hbelow => ?below, fun hreached hnone => ?atNone, fun hreached d hlevel => ?above⟩
  case below => rw [if_neg hbelow.not_ge]; rfl
  case atNone => rw [if_pos hreached.ge]; exact Port.drop_of_none hnone
  case above => rw [if_pos hreached.ge]; exact Port.drop_of_level hlevel

/-! ## RESTORE_CEILING -/

/-- A raise sets the ceiling, with CEILING_UP if it rose (R146, R149). -/
theorem Port.raiseCeiling_eq (d : Depth) (p : Port) :
    p.raiseCeiling d = { p with
      dgv := { p.dgv with ceiling := d }
      flags := p.flags ||| if p.dgv.ceiling.level < d.level then BitVec.twoPow 11 6 else 0 } := by
  by_cases hrose : p.dgv.ceiling.level < d.level
  case pos => simp only [Port.raiseCeiling, if_pos hrose]; rfl
  case neg => simp only [Port.raiseCeiling, if_neg hrose, BitVec.ofNat_eq_ofNat, BitVec.or_zero]

/-- The ceiling is the live max_ceiling and the failure counter 0, with CEILING_UP if the ceiling rose; the restore
timer is not touched (R149). -/
theorem Port.restoreCeiling_eq (p : Port) :
    p.restoreCeiling = { p with
      dgv := { p.dgv with ceiling := p.cfg.maxCeiling, failures := 0 }
      flags := p.flags ||| if p.dgv.ceiling.level < p.cfg.maxCeiling.level then BitVec.twoPow 11 6 else 0 } := by
  rw [Port.restoreCeiling, Port.raiseCeiling_eq]

/-! ## The decision at the command slot -/

section
variable {n : PortId} {s : State} {c : SlotCommand}

/-- A BUSY slot refuses the command, whatever its own acceptance condition (R158). -/
theorem State.slotCommand_of_busy (h : (s.port n).slot.busy = true) {refusal : Option Reason}
    {effect : State → State} : s.slotCommand n c refusal effect = s.modPort n (Port.refuse c .busy) :=
  if_pos h

/-- An IDLE slot carries out a command without a reason for refusal and reports it DONE (R158). -/
theorem State.slotCommand_of_accepted (h : (s.port n).slot.busy = false) (effect : State → State) :
    s.slotCommand n c none effect = (effect s).modPort n (Port.done c) := by
  rw [State.slotCommand, h, if_neg Bool.false_ne_true]

/-- A FLUSH at a BUSY slot is refused (R158). -/
theorem State.flush_of_busy (h : (s.port n).slot.busy = true) : s.flush n = s.modPort n (Port.refuse .flush .busy) :=
  if_pos h

/-- A refused command, out of reset, enters the record and sets CMD_REJECT; the slot state stays (R158). -/
theorem exec_eq_refused {i : Instr} {f : State → State} {r : Reason} (hexec : exec i s = running s f)
    (hr : s.resetHeld = false) (hrefused : f s = s.modPort n (Port.refuse c r)) :
    exec i s = .next (s.setPort n { s.port n with
      slot := { busy := (s.port n).slot.busy, command := c, result := .rejected, reason := r }
      flags := (s.port n).flags ||| BitVec.twoPow 11 10 }) := by
  rw [hexec, running_of_released hr, hrefused]
  rfl

/-- A command on the port alone, without a condition of its own, is carried out and reported DONE out of reset, with the
slot IDLE (R158). -/
theorem exec_eq_done {i : Instr} {f : State → State} {g : Port → Port} (hexec : exec i s = running s f)
    (hr : s.resetHeld = false) (hidle : (s.port n).slot.busy = false)
    (hcommand : f s = s.slotCommand n c none (State.modPort n g)) :
    exec i s = .next (s.setPort n ((g (s.port n)).done c)) := by
  rw [hexec, running_of_released hr, hcommand, State.slotCommand_of_accepted hidle, State.modPort_modPort]
  rfl

end

/-- Settles O45: a refusal leaves the record and the flag (`exec_eq_refused`), and an accepted command its effect on the
port with the report DONE (`exec_eq_done`). -/
theorem slotDecisions : Obligations.SlotDecisions := by
  intro n s hr p refused done
  refine ⟨fun hbusy => ?busy, ?unknown, fun hidle => ?restore, fun hidle => ?clear⟩
  case busy =>
    refine ⟨?apply, ?forceWake, ?flush, ?sendAdvert, ?restoreCeiling, ?clearCounters⟩
    case flush => exact exec_eq_refused rfl hr (State.flush_of_busy hbusy)
    case apply | forceWake | sendAdvert | restoreCeiling | clearCounters =>
      exact exec_eq_refused rfl hr (State.slotCommand_of_busy hbusy)
  case unknown => exact exec_eq_refused rfl hr rfl
  case restore =>
    rw [exec_eq_done (g := Port.restoreCeiling) rfl hr hidle rfl, Port.restoreCeiling_eq]
    rfl
  case clear => exact exec_eq_done (g := Port.clearCounters) rfl hr hidle rfl

end Sys2Proof.Machine
end

section
/-! What every step keeps, at one port: each operation on a port takes a port that keeps the laws to one that does.
`Port.Keeps` bundles the laws of one port, so that a chain of operations is one chain of such steps. -/

-- One theorem at a time: their elaboration side by side would each hold a thread and its stack.
set_option Elab.async false

namespace Sys2Proof.Machine

/-! ## The notions -/

/-- What the arbiter sees of a power state: the from-depth of a waiting request (R72), and whether a unit of the budget
count is held (R71). -/
def PS.demand : PS → Option JointDepth × Bool
  | .grantWait r => (some r.fromDepth, false)
  | x => (none, x.holdsUnit)

/-- From `p` to `q` every law of one port is kept. -/
structure Port.Keeps (p q : Port) : Prop where
  link : p.LinkLaw → q.LinkLaw
  sleep : p.LinkLaw → p.SleepLaw → q.SleepLaw
  governor : p.GovernorLaw → q.GovernorLaw
  queue : p.LinkLaw → p.QueueLaw → q.QueueLaw

/-- From `p` to `q` every law of one port is kept, and the pool and the quotas see no change. -/
structure Port.Still (p q : Port) : Prop extends Port.Keeps p q where
  cells : q.txq.queue.map (·.cells) = p.txq.queue.map (·.cells)
  cfg : q.cfg = p.cfg

/-- From `p` to `q` every law of one port is kept, and neither the pool nor the arbiter sees a change. -/
structure Port.Calm (p q : Port) : Prop extends Port.Still p q where
  demand : q.psc.ps.demand = p.psc.ps.demand

theorem Port.Keeps.refl (p : Port) : p.Keeps p := ⟨id, fun _ => id, id, fun _ => id⟩

theorem Port.Keeps.trans {p q r : Port} (h : p.Keeps q) (k : q.Keeps r) : p.Keeps r where
  link := k.link ∘ h.link
  sleep hl hs := k.sleep (h.link hl) (h.sleep hl hs)
  governor := k.governor ∘ h.governor
  queue hl hq := k.queue (h.link hl) (h.queue hl hq)

theorem Port.Still.refl (p : Port) : p.Still p := ⟨.refl p, rfl, rfl⟩

theorem Port.Still.trans {p q r : Port} (h : p.Still q) (k : q.Still r) : p.Still r :=
  ⟨h.toKeeps.trans k.toKeeps, k.cells.trans h.cells, k.cfg.trans h.cfg⟩

theorem Port.Calm.refl (p : Port) : p.Calm p := ⟨.refl p, rfl⟩

theorem Port.Calm.trans {p q r : Port} (h : p.Calm q) (k : q.Calm r) : p.Calm r :=
  ⟨h.toStill.trans k.toStill, k.demand.trans h.demand⟩

/-! ## What each law speaks of -/

/-- A port whose link stays UP keeps the link law with its power state on line and its exchange begun. -/
theorem Port.LinkLaw.of_up {p q : Port} (h : p.LinkLaw) (up : p.lpe.link = .up)
    (online : q.psc.ps ≠ .offline) (advertised : q.adu.state ≠ .unsent)
    (link : q.lpe.link = p.lpe.link := by rfl) (cfg : q.cfg = p.cfg := by rfl) : q.LinkLaw := by
  have up' : q.lpe.link = .up := link.trans up
  have enabled : q.cfg.enable = false → q.lpe.link = .down := by rw [cfg, link]; exact h.enabled
  constructor <;> first | exact enabled | exact fun _ => online | exact fun _ => advertised | exact absurd up'

/-- The sleep law speaks of PSC n and of the validity of PA. -/
theorem Port.SleepLaw.congr {p q : Port} (h : p.SleepLaw) (psc : q.psc = p.psc := by rfl)
    (valid : q.adu.pa.valid = p.adu.pa.valid := by rfl) : q.SleepLaw := by
  obtain ⟨h1, h2, h3, h4, h5, h6, h7, h8, h9, h10, h11, h12, h13⟩ := h
  rw [← psc] at *
  rw [← valid] at h3
  exact ⟨h1, h2, h3, h4, h5, h6, h7, h8, h9, h10, h11, h12, h13⟩

/-- The governor law speaks of the live configuration, the failure counter and the ceiling. -/
theorem Port.GovernorLaw.congr {p q : Port} (h : p.GovernorLaw) (cfg : q.cfg = p.cfg := by rfl)
    (failures : q.dgv.failures = p.dgv.failures := by rfl) (ceiling : q.dgv.ceiling = p.dgv.ceiling := by rfl) :
    q.GovernorLaw := by
  obtain ⟨h1, h2, h3, h4⟩ := h
  constructor <;> simp only [cfg, failures, ceiling] <;> assumption

/-- The queue law speaks of the queue, the number in the flush record, the frame in progress, the frame in flight and the
slot state. -/
theorem Port.QueueLaw.congr {p q : Port} (h : p.QueueLaw) (queue : q.txq.queue = p.txq.queue := by rfl)
    (flush : q.txq.flush.map (·.left) = p.txq.flush.map (·.left) := by rfl)
    (ingress : q.ssp.ingress.map (·.route) = p.ssp.ingress.map (·.route) := by rfl)
    (tx : (∃ c, q.lpe.tx = .busy .queued c) ↔ ∃ c, p.lpe.tx = .busy .queued c := by exact Iff.rfl)
    (busy : q.slot.busy = p.slot.busy := by rfl) : q.QueueLaw := by
  have queued (x : Option Ingress) : (∃ g, x = some g ∧ g.route = .queued) ↔ x.map (·.route) = some .queued := by
    cases x <;> simp
  have some_left (x : Option FlushRecord) : (∀ f, x = some f → 1 ≤ f.left) ↔ ∀ k, x.map (·.left) = some k → 1 ≤ k := by
    cases x <;> simp
  have isSome_left (x : Option FlushRecord) : x.isSome = (x.map (·.left)).isSome := by cases x <;> rfl
  obtain ⟨h1, h2, h3, h4, h5, h6, h7, h8, h9, h10, h11⟩ := h
  refine ⟨?_, ?_, ?_, ?_, ?_, ?_, ?_, ?_, ?_, ?_, ?_⟩
  case refine_3 => rw [queue, queued, ingress, ← queued]; exact h3
  case refine_5 => rw [queue, tx]; exact h5
  case refine_9 => rw [busy, isSome_left, flush, ← isSome_left]; exact h9
  case refine_10 => rw [queue, flush]; exact h10
  case refine_11 => rw [some_left, flush, ← some_left]; exact h11
  all_goals rw [queue]; assumption

end Sys2Proof.Machine
end

section
-- One theorem at a time: their elaboration side by side would each hold a thread and its stack.
set_option Elab.async false

namespace Sys2Proof.Machine

/-! ## A change of one block -/

section
variable {p q : Port}

/-- A change of nothing a law speaks of: levels, histories, counters, flags, staging, the record of the slot. -/
theorem Port.Calm.of_alike (link : q.lpe.link = p.lpe.link := by rfl) (tx : q.lpe.tx = p.lpe.tx := by rfl)
    (psc : q.psc = p.psc := by rfl) (adu : q.adu = p.adu := by rfl) (txq : q.txq = p.txq := by rfl)
    (ssp : q.ssp = p.ssp := by rfl) (dgv : q.dgv = p.dgv := by rfl) (cfg : q.cfg = p.cfg := by rfl)
    (busy : q.slot.busy = p.slot.busy := by rfl) : p.Calm q where
  link h := by
    obtain ⟨h1, h2, h3, h4, h5, h6, h7, h8, h9, h10⟩ := h
    constructor <;> simp only [link, tx, psc, adu, txq, ssp, dgv, cfg] <;> assumption
  sleep _ h := h.congr psc (by rw [adu])
  governor h := h.congr cfg (by rw [dgv]) (by rw [dgv])
  queue _ h := h.congr (by rw [txq]) (by rw [txq]) (by rw [ssp]) (by rw [tx]) busy
  cells := by rw [txq]
  cfg := cfg
  demand := by rw [psc]

/-- A change of PSC n that keeps the sleep law. -/
theorem Port.Still.of_psc (off : p.LinkLaw → p.lpe.link ≠ .up → q.psc = {})
    (online : p.psc.ps ≠ .offline → q.psc.ps ≠ .offline) (sleep : p.SleepLaw → q.SleepLaw)
    (link : q.lpe.link = p.lpe.link := by rfl) (tx : q.lpe.tx = p.lpe.tx := by rfl)
    (adu : q.adu = p.adu := by rfl) (txq : q.txq = p.txq := by rfl)
    (rx : q.ssp.rx = p.ssp.rx ∨ q.ssp.rx = none := by exact .inl rfl)
    (ingress : q.ssp.ingress = p.ssp.ingress := by rfl) (dgv : q.dgv = p.dgv := by rfl) (cfg : q.cfg = p.cfg := by rfl)
    (busy : q.slot.busy = p.slot.busy := by rfl) : p.Still q where
  link h := by
    have hrx : p.lpe.link ≠ .up → q.ssp.rx = none := fun hn => rx.elim (fun e => e.trans (h.rx hn)) id
    have hoff := off h
    obtain ⟨h1, h2, h3, h4, h5, h6, h7, h8, h9, h10⟩ := h
    constructor <;> simp only [link, tx, adu, txq, ingress, dgv, cfg] <;> try assumption
    exact fun hup => online (h9 hup)
  sleep _ := sleep
  governor h := h.congr cfg (by rw [dgv]) (by rw [dgv])
  queue _ h := h.congr (by rw [txq]) (by rw [txq]) (by rw [ingress]) (by rw [tx]) busy
  cells := by rw [txq]
  cfg := cfg

/-- A change of PSC n that keeps the sleep law and what the arbiter sees. -/
theorem Port.Calm.of_psc (off : p.LinkLaw → p.lpe.link ≠ .up → q.psc = {})
    (online : p.psc.ps ≠ .offline → q.psc.ps ≠ .offline) (sleep : p.SleepLaw → q.SleepLaw)
    (demand : q.psc.ps.demand = p.psc.ps.demand := by rfl)
    (link : q.lpe.link = p.lpe.link := by rfl) (tx : q.lpe.tx = p.lpe.tx := by rfl)
    (adu : q.adu = p.adu := by rfl) (txq : q.txq = p.txq := by rfl)
    (rx : q.ssp.rx = p.ssp.rx ∨ q.ssp.rx = none := by exact .inl rfl)
    (ingress : q.ssp.ingress = p.ssp.ingress := by rfl) (dgv : q.dgv = p.dgv := by rfl) (cfg : q.cfg = p.cfg := by rfl)
    (busy : q.slot.busy = p.slot.busy := by rfl) : p.Calm q :=
  ⟨.of_psc off online sleep link tx adu txq rx ingress dgv cfg busy, demand⟩

/-- A change of ADU n that takes no validity from PA. -/
theorem Port.Calm.of_adu (off : p.LinkLaw → p.lpe.link ≠ .up → q.adu.linkLost = q.adu)
    (advertised : p.adu.state ≠ .unsent → q.adu.state ≠ .unsent)
    (valid : p.adu.pa.valid = true → q.adu.pa.valid = true := by exact id)
    (link : q.lpe.link = p.lpe.link := by rfl) (tx : q.lpe.tx = p.lpe.tx := by rfl)
    (psc : q.psc = p.psc := by rfl) (txq : q.txq = p.txq := by rfl)
    (ssp : q.ssp = p.ssp := by rfl) (dgv : q.dgv = p.dgv := by rfl) (cfg : q.cfg = p.cfg := by rfl)
    (busy : q.slot.busy = p.slot.busy := by rfl) : p.Calm q where
  link h := by
    have hoff := off h
    obtain ⟨h1, h2, h3, h4, h5, h6, h7, h8, h9, h10⟩ := h
    constructor <;> simp only [link, tx, psc, txq, ssp, dgv, cfg] <;> try assumption
    exact fun hup => advertised (h10 hup)
  sleep _ h := by
    obtain ⟨h1, h2, h3, h4, h5, h6, h7, h8, h9, h10, h11, h12, h13⟩ := h
    constructor <;> simp only [psc] <;> try assumption
    exact fun hn => valid (h3 hn)
  governor h := h.congr cfg (by rw [dgv]) (by rw [dgv])
  queue _ h := h.congr (by rw [txq]) (by rw [txq]) (by rw [ssp]) (by rw [tx]) busy
  cells := by rw [txq]
  cfg := cfg
  demand := by rw [psc]

/-- A change of the receiver, of the transmitter and of the queue's watches, which keeps the queue and leaves a queued
frame in flight. -/
theorem Port.Calm.of_line (off : p.LinkLaw → p.lpe.link ≠ .up → q.lpe.tx = .idle ∧ q.ssp.rx = none ∧ q.txq = {})
    (queued : (∃ c, q.lpe.tx = .busy .queued c) ↔ ∃ c, p.lpe.tx = .busy .queued c := by exact Iff.rfl)
    (queue : q.txq.queue = p.txq.queue := by rfl)
    (flush : q.txq.flush.map (·.left) = p.txq.flush.map (·.left) := by rfl)
    (link : q.lpe.link = p.lpe.link := by rfl) (psc : q.psc = p.psc := by rfl) (adu : q.adu = p.adu := by rfl)
    (ingress : q.ssp.ingress = p.ssp.ingress := by rfl) (dgv : q.dgv = p.dgv := by rfl) (cfg : q.cfg = p.cfg := by rfl)
    (busy : q.slot.busy = p.slot.busy := by rfl) : p.Calm q where
  link h := by
    have hoff := off h
    obtain ⟨h1, h2, h3, h4, h5, h6, h7, h8, h9, h10⟩ := h
    constructor <;> simp only [link, psc, adu, ingress, dgv, cfg] <;> try assumption
    · exact fun hn => (hoff hn).2.2
    · exact fun hn => (hoff hn).1
    · exact fun hn => (hoff hn).2.1
  sleep _ h := h.congr psc (by rw [adu])
  governor h := h.congr cfg (by rw [dgv]) (by rw [dgv])
  queue _ h := h.congr queue flush (by rw [ingress]) queued busy
  cells := by rw [queue]
  cfg := cfg
  demand := by rw [psc]

/-- A change of DGV n that keeps the governor law. -/
theorem Port.Calm.of_dgv (off : p.LinkLaw → p.lpe.link ≠ .up → q.dgv.restore = none)
    (governor : p.GovernorLaw → q.GovernorLaw)
    (link : q.lpe.link = p.lpe.link := by rfl) (tx : q.lpe.tx = p.lpe.tx := by rfl)
    (psc : q.psc = p.psc := by rfl) (adu : q.adu = p.adu := by rfl) (txq : q.txq = p.txq := by rfl)
    (ssp : q.ssp = p.ssp := by rfl) (cfg : q.cfg = p.cfg := by rfl)
    (busy : q.slot.busy = p.slot.busy := by rfl) : p.Calm q where
  link h := by
    have hoff := off h
    obtain ⟨h1, h2, h3, h4, h5, h6, h7, h8, h9, h10⟩ := h
    constructor <;> simp only [link, tx, psc, adu, txq, ssp, cfg] <;> assumption
  sleep _ h := h.congr psc (by rw [adu])
  governor := governor
  queue _ h := h.congr (by rw [txq]) (by rw [txq]) (by rw [ssp]) (by rw [tx]) busy
  cells := by rw [txq]
  cfg := cfg
  demand := by rw [psc]

end

/-! ## Histories, counters, flags and levels -/

theorem Port.calm_emit (o : List LineTx) (p : Port) : p.Calm (p.emit o) := .of_alike
theorem Port.calm_deliver (o : List EgressTx) (p : Port) : p.Calm (p.deliver o) := .of_alike
theorem Port.calm_count (c : Counter) (p : Port) : p.Calm (p.count c) := .of_alike
theorem Port.calm_raise (f : PortFlag) (p : Port) : p.Calm (p.raise f) := .of_alike
theorem Port.calm_discard (c : Counter) (p : Port) : p.Calm (p.discard c) := .of_alike
theorem Port.calm_setFill (f : Option Fill) (p : Port) : p.Calm (p.setFill f) := .of_alike
theorem Port.calm_setSignal (b : Bool) (p : Port) : p.Calm (p.setSignal b) := .of_alike
theorem Port.calm_refuse (c : SlotCommand) (r : Reason) (p : Port) : p.Calm (p.refuse c r) := .of_alike
theorem Port.calm_clearCounters (p : Port) : p.Calm p.clearCounters := .of_alike
theorem Port.calm_stopAcquire (p : Port) : p.Calm p.stopAcquire := .of_alike
theorem Port.calm_stopRestart (p : Port) : p.Calm p.stopRestart := .of_alike

theorem Port.calm_say (w : OneShot) (p : Port) : p.Calm (p.say w) := by
  rw [Port.say_eq]; exact .of_alike

theorem Port.calm_countResidency (p : Port) : p.Calm p.countResidency := by
  unfold Port.countResidency
  split
  · exact p.calm_count _
  · exact .refl p

/-! ## The receiver -/

/-- A receiver in the middle of a frame stands at an UP link. -/
theorem Port.LinkLaw.up_of_rx {p : Port} (h : p.LinkLaw) (rx : p.ssp.rx ≠ none) : p.lpe.link = .up :=
  not_not.mp (rx ∘ h.rx)

theorem Port.LinkLaw.up_of_tx {p : Port} (h : p.LinkLaw) (tx : p.lpe.tx ≠ .idle) : p.lpe.link = .up :=
  not_not.mp (tx ∘ h.tx)

theorem Port.LinkLaw.up_of_ps {p : Port} (h : p.LinkLaw) (ps : p.psc.ps ≠ .offline) : p.lpe.link = .up :=
  not_not.mp fun hn => ps (by rw [h.psc hn])

theorem Port.LinkLaw.up_of_txq {p : Port} (h : p.LinkLaw) (txq : p.txq ≠ {}) : p.lpe.link = .up :=
  not_not.mp (txq ∘ h.txq)

theorem Port.LinkLaw.up_of_psc {p : Port} (h : p.LinkLaw) (psc : p.psc ≠ {}) : p.lpe.link = .up :=
  not_not.mp (psc ∘ h.psc)

theorem Port.LinkLaw.up_of_state {p : Port} (h : p.LinkLaw) (state : p.adu.state ≠ .unsent) : p.lpe.link = .up :=
  not_not.mp fun hn => state (by rw [← h.adu hn]; rfl)

theorem Port.calm_setRx {rx : Option RxFrame} {p : Port} (h : p.LinkLaw → p.lpe.link ≠ .up → rx = none) :
    p.Calm (p.setRx rx) :=
  .of_line fun hl hn => ⟨hl.tx hn, h hl hn, hl.txq hn⟩

theorem Port.calm_setRx_none (p : Port) : p.Calm (p.setRx none) := Port.calm_setRx fun _ _ => rfl

theorem Port.calm_closeWithError (header : Option RxHeader) (p : Port) : p.Calm (p.closeWithError header) :=
  (p.calm_deliver _).trans (Port.calm_count _ _)

theorem Port.calm_breakRx (p : Port) : p.Calm p.breakRx := by
  unfold Port.breakRx
  split
  · exact (p.calm_closeWithError _).trans (Port.calm_setRx_none _)
  · exact (p.calm_count _).trans (Port.calm_setRx_none _)
  · exact p.calm_setRx_none
  · exact .refl p

theorem Port.calm_cutRx (p : Port) : p.Calm p.cutRx := by
  unfold Port.cutRx
  split
  · exact (p.calm_closeWithError _).trans (Port.calm_setRx_none _)
  · exact p.calm_setRx_none
  · exact p.calm_setRx_none
  · exact .refl p

theorem Port.calm_endManagement (p : Port) : p.Calm p.endManagement := by
  unfold Port.endManagement
  split
  · exact p.calm_setRx_none
  · exact p.calm_breakRx

theorem Port.calm_hearDataByte (b : Byte) (p : Port) : p.Calm (p.hearDataByte b) := by
  unfold Port.hearDataByte
  split
  · rename_i h count check hrx
    have up : p.LinkLaw → p.lpe.link = .up := fun hl => hl.up_of_rx (by simp [hrx])
    split
    · exact (p.calm_deliver _).trans (Port.calm_setRx fun hl hn => absurd (hl.up_of_rx (by simp [hrx])) hn)
    · exact (p.calm_closeWithError _).trans
        (Port.calm_setRx fun hl hn => absurd (hl.up_of_rx (by simp [Port.closeWithError, hrx])) hn)
  all_goals exact .refl p

theorem Port.calm_hearFrameEnd (e : RxEnd) (p : Port) : p.Calm (p.hearFrameEnd e) := by
  unfold Port.hearFrameEnd
  split
  · split
    · exact ((p.calm_deliver _).trans (Port.calm_count _ _)).trans (Port.calm_setRx_none _)
    · exact (p.calm_closeWithError _).trans (Port.calm_setRx_none _)
  · exact (p.calm_closeWithError _).trans (Port.calm_setRx_none _)
  · exact (p.calm_count _).trans (Port.calm_setRx_none _)
  · exact p.calm_setRx_none
  · exact .refl p

end Sys2Proof.Machine
end

section
-- One theorem at a time: their elaboration side by side would each hold a thread and its stack.
set_option Elab.async false

namespace Sys2Proof.Machine

/-! ## Receive state, offers and the idle timer -/

theorem Port.calm_setOffer {o : Option PartnerOffer} {p : Port} (h : p.LinkLaw → p.lpe.link ≠ .up → o = none) :
    p.Calm (p.setOffer o) :=
  .of_psc (fun hl hn => by simp [hl.psc hn, h hl hn]) id
    fun ⟨h1, h2, h3, h4, h5, h6, h7, h8, h9, h10, h11, h12, h13⟩ =>
      ⟨h1, h2, h3, h4, h5, h6, h7, h8, h9, h10, h11, h12, h13⟩

theorem Port.calm_setOffer_none (p : Port) : p.Calm (p.setOffer none) := Port.calm_setOffer fun _ _ => rfl

theorem Port.calm_setForce {p : Port} (up : p.lpe.link = .up) : p.Calm p.setForce :=
  .of_psc (fun _ hn => absurd up hn) id
    fun ⟨h1, h2, h3, h4, h5, h6, h7, h8, h9, h10, h11, h12, h13⟩ =>
      ⟨h1, h2, h3, h4, h5, h6, h7, h8, h9, h10, h11, h12, h13⟩

/-- A change of RS within AWAKE, LISTEN and REVIVING, with a revival exactly in REVIVING, keeps the sleep law. -/
theorem Port.SleepLaw.of_rs {p q : Port} (h : p.SleepLaw) (before : p.psc.rs ≠ .joint) (after : q.psc.rs ≠ .joint)
    (reviving : q.psc.rs = .reviving ↔ q.psc.revival.isSome = true)
    (psc : q.psc = { p.psc with rs := q.psc.rs, revival := q.psc.revival } := by rfl)
    (valid : q.adu.pa.valid = p.adu.pa.valid := by rfl) : q.SleepLaw := by
  have hjoint : q.psc.rs = .joint ↔ q.psc.ps.joint := by
    rw [psc]
    exact iff_of_false after (before ∘ h.joint.mpr)
  obtain ⟨-, -, h3, h4, h5, h6, h7, h8, h9, h10, h11, h12, h13⟩ := h
  rw [← valid] at h3
  refine ⟨hjoint, reviving, ?_, ?_, ?_, ?_, ?_, ?_, ?_, ?_, ?_, ?_, ?_⟩ <;> rw [psc] <;> assumption

theorem Port.calm_startRevival {now : Nat} {cause : RevivalCause} {p : Port} (up : p.lpe.link = .up)
    (rs : p.psc.rs = .listen) : p.Calm (p.startRevival now cause) :=
  .of_psc (fun _ hn => absurd up hn) id fun h => h.of_rs (by simp [rs]) (by simp [Port.startRevival])
    (by simp [Port.startRevival])

theorem Port.calm_unannounced {now : Nat} {p : Port} (up : p.lpe.link = .up) (rs : p.psc.rs = .listen) :
    p.Calm (p.unannounced now) :=
  (p.calm_count _).trans (Port.calm_startRevival (by exact up) (by exact rs))

@[simp] theorem Port.cutRx_lpe (p : Port) : p.cutRx.lpe = p.lpe := by rw [Port.cutRx_eq]
@[simp] theorem Port.cutRx_psc (p : Port) : p.cutRx.psc = p.psc := by rw [Port.cutRx_eq]

theorem Port.calm_toListen {p : Port} (up : p.lpe.link = .up) (rs : p.psc.rs = .awake) : p.Calm p.toListen := by
  refine p.calm_cutRx.trans ?_
  refine .of_psc (fun _ hn => absurd (p.cutRx_lpe ▸ up) hn) id fun h => ?_
  exact h.of_rs (by simp [rs]) (by simp [Port.toListen]) (by simpa [Port.toListen, rs] using h.reviving)

theorem Port.calm_revived {p : Port} (h : p.psc.revival ≠ none) : p.Calm p.revived := by
  refine .trans (q := { p with psc := { p.psc with rs := .awake, revival := none } }) ?_ (Port.calm_say _ _)
  refine .of_psc (fun hl hn => absurd (hl.up_of_psc fun e => h (by rw [e])) hn) id fun hs => ?_
  exact hs.of_rs (by rw [hs.reviving.mpr (Option.isSome_iff_ne_none.mpr h)]; simp) (by simp) (by simp)

theorem Port.calm_idleUpdate (now : Nat) (p : Port) : p.Calm (p.idleUpdate now) := by
  unfold Port.idleUpdate
  split
  · rename_i hq
    have active : p.psc.ps = .active := by simp [Port.quiet] at hq; exact hq.1.1.1.1
    split
    · refine .of_psc (fun hl hn => absurd (hl.up_of_ps (by simp [active])) hn) id ?_
      intro ⟨h1, h2, h3, h4, h5, h6, h7, h8, h9, h10, h11, h12, h13⟩
      exact ⟨h1, h2, h3, fun _ => active, h5, h6, h7, h8, h9, h10, h11, h12, h13⟩
    · exact .refl p
  · refine .of_psc (fun hl hn => by simp [hl.psc hn]) id ?_
    intro ⟨h1, h2, h3, h4, h5, h6, h7, h8, h9, h10, h11, h12, h13⟩
    exact ⟨h1, h2, h3, by simp, h5, h6, h7, h8, h9, h10, h11, h12, h13⟩

theorem Port.calm_hearIdl (now : Nat) (p : Port) : p.Calm (p.hearIdl now) := by
  unfold Port.hearIdl
  split
  · rename_i up
    split
    · split
      · exact .refl p
      · exact (p.calm_setFill _).trans (Port.calm_setOffer_none _)
    · exact Port.calm_unannounced up (by assumption)
    all_goals exact .refl p
  · exact .refl p

theorem Port.calm_hearDim (p : Port) : p.Calm p.hearDim := by
  unfold Port.hearDim
  split
  · rename_i up
    split
    · split
      · exact .refl p
      · exact (p.calm_setFill _).trans (Port.calm_toListen (by exact up) (by assumption))
    · exact p.calm_setFill _
    all_goals exact .refl p
  · exact .refl p

theorem Port.calm_recordOffer {now : Nat} {d : JointDepth} {p : Port} (up : p.lpe.link = .up) :
    p.Calm (p.recordOffer now d) := Port.calm_setOffer fun _ hn => absurd up hn

theorem Port.calm_answerAlr {now : Nat} {p : Port} (up : p.lpe.link = .up) : p.Calm (p.answerAlr now) := by
  unfold Port.answerAlr
  split
  · exact p.calm_say _
  · exact Port.calm_startRevival up (by assumption)
  all_goals exact .refl p

theorem Port.calm_beginData {header : Option RxHeader} {p : Port} (up : p.lpe.link = .up) :
    p.Calm (p.beginData header) := by
  unfold Port.beginData
  refine p.calm_setOffer_none.trans ?_
  split
  · exact (Port.calm_deliver _ _).trans (Port.calm_setRx fun _ hn => absurd up hn)
  · exact Port.calm_setRx fun _ hn => absurd up hn

theorem Port.calm_hearFrameStart (now : Nat) (type : Byte) (header : Option RxHeader) (p : Port) :
    p.Calm (p.hearFrameStart now type header) := by
  unfold Port.hearFrameStart
  split
  · rename_i up
    have up' : p.breakRx.lpe.link = .up := by rw [Port.breakRx_eq]; exact up
    split
    · unfold Port.sortFrame
      refine p.calm_breakRx.trans ?_
      split
      · exact Port.calm_beginData up'
      · split
        · exact Port.calm_setRx fun _ hn => absurd up' hn
        · exact (Port.calm_count _ _).trans (Port.calm_setRx fun _ hn => absurd up' hn)
    · exact Port.calm_unannounced up (by assumption)
    all_goals exact .refl p
  · exact .refl p

/-! ## Refresh -/

theorem Port.calm_startRefreshWatch {now : Nat} {p : Port} (up : p.lpe.link = .up) (ps : p.psc.ps.refreshes = true) :
    p.Calm (p.startRefreshWatch now) := by
  refine .of_psc (fun _ hn => absurd up hn) id ?_
  intro ⟨h1, h2, h3, h4, h5, h6, h7, h8, h9, h10, h11, h12, h13⟩
  exact ⟨h1, h2, h3, h4, h5, h6, h7, h8, fun _ => rfl, fun _ => .inl ps, h11, h12, h13⟩

theorem Port.calm_hearRfr (now : Nat) (p : Port) : p.Calm (p.hearRfr now) := by
  unfold Port.hearRfr
  split
  · rename_i up
    split
    · exact Port.calm_unannounced up (by assumption)
    · split
      · exact Port.calm_startRefreshWatch up (by assumption)
      · exact .refl p
    all_goals exact .refl p
  · exact .refl p

theorem Port.calm_refreshSendDue (now : Nat) (p : Port) : p.Calm (p.refreshSendDue now) := by
  unfold Port.refreshSendDue
  split
  · rename_i ps
    refine (p.calm_say .rfr).trans ?_
    refine .of_psc (fun hl hn => absurd (hl.up_of_ps fun e => ?_) hn) id ?_
    · rw [Port.say_psc] at e; simp [e, PS.refreshes] at ps
    · intro ⟨h1, h2, h3, h4, h5, h6, h7, h8, h9, h10, h11, h12, h13⟩
      exact ⟨h1, h2, h3, h4, h5, h6, h7, iff_of_true rfl (by simpa [Port.startRefreshSend] using ps), h9, h10, h11, h12, h13⟩
  · rename_i ps
    refine .of_psc (fun hl hn => by simp [hl.psc hn]) id ?_
    intro ⟨h1, h2, h3, h4, h5, h6, h7, h8, h9, h10, h11, h12, h13⟩
    exact ⟨h1, h2, h3, h4, h5, h6, h7, iff_of_false (by simp) ps, h9, h10, h11, h12, h13⟩

end Sys2Proof.Machine
end

section
-- One theorem at a time: their elaboration side by side would each hold a thread and its stack.
set_option Elab.async false

namespace Sys2Proof.Machine

/-! ## Descent (chapter 2) -/

section
variable {now : Nat} {p : Port}

/-- The idle timer stops, and an idle timer starts anew in ACTIVE (R24). -/
theorem Port.calm_stopIdle (p : Port) : p.Calm { p with psc := { p.psc with idleTimer := none } } := by
  refine .of_psc (fun hl hn => by simp [hl.psc hn]) id ?_
  rintro ⟨h1, h2, h3, h4, h5, h6, h7, h8, h9, h10, h11, h12, h13⟩
  exact ⟨h1, h2, h3, by simp, h5, h6, h7, h8, h9, h10, h11, h12, h13⟩

theorem Port.calm_startIdle (ps : p.psc.ps = .active) (x : Option Nat) :
    p.Calm { p with psc := { p.psc with idleTimer := x } } := by
  refine .of_psc (fun hl hn => absurd (hl.up_of_ps (by simp [ps])) hn) id ?_
  rintro ⟨h1, h2, h3, h4, h5, h6, h7, h8, h9, h10, h11, h12, h13⟩
  exact ⟨h1, h2, h3, fun _ => ps, h5, h6, h7, h8, h9, h10, h11, h12, h13⟩

/-- From ACTIVE to DIM with the idle timer stopped and the deep timer started (R24). -/
theorem Port.calm_fallDim (ps : p.psc.ps = .active) (idle : p.psc.idleTimer = none) :
    p.Calm ((p.setPs .dim).startDeepTimer now) := by
  refine .of_psc (fun hl hn => absurd (hl.up_of_ps (by simp [ps])) hn) (fun _ => by simp [Port.startDeepTimer]) ?_
    (by simp [PS.demand, ps, Port.startDeepTimer, PS.holdsUnit])
  rintro ⟨h1, h2, h3, h4, h5, h6, h7, h8, h9, h10, h11, h12, h13⟩
  constructor <;> simp_all [PS.joint, PS.needsPartner, PS.refreshes, Port.startDeepTimer, after]

/-- Entry into DEEP from DIM with PA valid or from OFFER-DEEP (R31). -/
theorem Port.calm_enterDeep (ps : (p.psc.ps = .dim ∧ p.adu.pa.valid = true) ∨ p.psc.ps = .offerDeep) :
    p.Calm (p.enterDeep now) := by
  have hdeep := Port.enterDeep_eq now [] p
  simp only [List.append_nil] at hdeep
  rw [hdeep]
  refine .of_psc (rx := .inr rfl) (fun hl hn => absurd (hl.up_of_ps ?_) hn) (fun _ => by simp [asleepDeep]) ?_ ?_
  · rcases ps with ⟨h, -⟩ | h <;> simp [h]
  · rintro ⟨h1, h2, h3, h4, h5, h6, h7, h8, h9, h10, h11, h12, h13⟩
    have valid : p.adu.pa.valid = true := ps.elim And.right fun h => h3 (by rw [h]; trivial)
    constructor <;> simp [PS.joint, PS.needsPartner, PS.refreshes, asleepDeep, valid]
  · rcases ps with ⟨h, -⟩ | h <;> simp [h, PS.demand, asleepDeep, PS.holdsUnit]

/-- The deep timer restarts in DIM (R25). -/
theorem Port.calm_restartDeep (ps : p.psc.ps = .dim) : p.Calm (p.startDeepTimer now) := by
  refine .of_psc (fun hl hn => absurd (hl.up_of_ps (by simp [ps])) hn) id ?_
  rintro ⟨h1, h2, h3, h4, h5, h6, h7, h8, h9, h10, h11, h12, h13⟩
  exact ⟨h1, h2, h3, h4, iff_of_true rfl ps, h6, h7, h8, h9, h10, h11, h12, h13⟩

/-- From DIM to OFFER-DEEP with PA valid: the deep timer gives way to the offer timer (R25). -/
theorem Port.calm_offerDeep (ps : p.psc.ps = .dim) (valid : p.adu.pa.valid = true) {x : Nat} :
    p.Calm { p with psc := { p.psc with ps := .offerDeep, deepTimer := none, offerTimer := some x } } := by
  refine .of_psc (fun hl hn => absurd (hl.up_of_ps (by simp [ps])) hn) (by simp) ?_
    (by simp [PS.demand, ps, PS.holdsUnit])
  rintro ⟨h1, h2, h3, h4, h5, h6, h7, h8, h9, h10, h11, h12, h13⟩
  constructor <;> simp_all [PS.joint, PS.needsPartner, PS.refreshes]

/-- A timer of another power state stands stopped already (R18). -/
theorem Port.calm_stopDeep (ps : p.psc.ps ≠ .dim) : p.Calm { p with psc := { p.psc with deepTimer := none } } := by
  refine .of_psc (fun hl hn => by simp [hl.psc hn]) id ?_
  rintro ⟨h1, h2, h3, h4, h5, h6, h7, h8, h9, h10, h11, h12, h13⟩
  exact ⟨h1, h2, h3, h4, iff_of_false (by simp) ps, h6, h7, h8, h9, h10, h11, h12, h13⟩

theorem Port.calm_stopOffer (deep : p.psc.ps ≠ .offerDeep) (dormant : p.psc.ps ≠ .offerDormant) :
    p.Calm { p with psc := { p.psc with offerTimer := none } } := by
  refine .of_psc (fun hl hn => by simp [hl.psc hn]) id ?_
  rintro ⟨h1, h2, h3, h4, h5, h6, h7, h8, h9, h10, h11, h12, h13⟩
  exact ⟨h1, h2, h3, h4, h5, iff_of_false (by simp) (not_or.mpr ⟨deep, dormant⟩), h7, h8, h9, h10, h11, h12, h13⟩

theorem Port.calm_stopDormant (ps : p.psc.ps ≠ .deep) :
    p.Calm { p with psc := { p.psc with dormantTimer := none } } := by
  refine .of_psc (fun hl hn => by simp [hl.psc hn]) id ?_
  rintro ⟨h1, h2, h3, h4, h5, h6, h7, h8, h9, h10, h11, h12, h13⟩
  exact ⟨h1, h2, h3, h4, h5, h6, iff_of_false (by simp) ps, h8, h9, h10, h11, h12, h13⟩

/-- From OFFER-DEEP back to DIM at the offer timeout (R28). -/
theorem Port.calm_offerBack (ps : p.psc.ps = .offerDeep) :
    p.Calm ((({ p with psc := { p.psc with offerTimer := none } } : Port).setPs .dim).startDeepTimer now) := by
  refine .of_psc (fun hl hn => absurd (hl.up_of_ps (by simp [ps])) hn) (fun _ => by simp [Port.startDeepTimer]) ?_
    (by simp [PS.demand, ps, Port.startDeepTimer, PS.holdsUnit])
  rintro ⟨h1, h2, h3, h4, h5, h6, h7, h8, h9, h10, h11, h12, h13⟩
  constructor <;> simp_all [PS.joint, PS.needsPartner, PS.refreshes, Port.startDeepTimer, after]

/-- From OFFER-DORMANT back to DEEP at the offer timeout (R38). -/
theorem Port.calm_offerReturn (ps : p.psc.ps = .offerDormant) :
    p.Calm (({ p with psc := { p.psc with offerTimer := none } } : Port).returnDeep now) := by
  refine .of_psc (fun hl hn => absurd (hl.up_of_ps (by simp [ps])) hn)
    (fun _ => by simp [Port.returnDeep, Port.startDormantTimer]) ?_
    (by simp [PS.demand, ps, Port.returnDeep, Port.startDormantTimer, PS.holdsUnit])
  rintro ⟨h1, h2, h3, h4, h5, h6, h7, h8, h9, h10, h11, h12, h13⟩
  constructor <;> simp_all [PS.joint, PS.needsPartner, PS.refreshes, Port.returnDeep, Port.startDormantTimer, after]

/-- From DEEP to OFFER-DORMANT: the dormant timer gives way to the offer timer (R35). -/
theorem Port.calm_offerDormant (ps : p.psc.ps = .deep) {x : Nat} :
    p.Calm { p with psc := { p.psc with ps := .offerDormant, dormantTimer := none, offerTimer := some x } } := by
  refine .of_psc (fun hl hn => absurd (hl.up_of_ps (by simp [ps])) hn) (by simp) ?_
    (by simp [PS.demand, ps, PS.holdsUnit])
  rintro ⟨h1, h2, h3, h4, h5, h6, h7, h8, h9, h10, h11, h12, h13⟩
  constructor <;> simp_all [PS.joint, PS.needsPartner, PS.refreshes]

/-- The dormant timer restarts in DEEP (R35). -/
theorem Port.calm_restartDormant (ps : p.psc.ps = .deep) : p.Calm (p.startDormantTimer now) := by
  refine .of_psc (fun hl hn => absurd (hl.up_of_ps (by simp [ps])) hn) id ?_
  rintro ⟨h1, h2, h3, h4, h5, h6, h7, h8, h9, h10, h11, h12, h13⟩
  exact ⟨h1, h2, h3, h4, h5, h6, iff_of_true rfl ps, h8, h9, h10, h11, h12, h13⟩

/-- Entry into DORMANT from DEEP, OFFER-DORMANT or GRANT-WAIT: none of the timers of R18 runs on (R39). -/
theorem Port.still_enterDormant
    (ps : p.psc.ps = .deep ∨ p.psc.ps = .offerDormant ∨ ∃ r, p.psc.ps = .grantWait r) : p.Still p.enterDormant := by
  have joint : p.psc.ps.joint ∧ p.psc.ps.needsPartner ∧ p.psc.ps ≠ .offline := by
    rcases ps with h | h | ⟨r, h⟩ <;> simp [h, PS.joint, PS.needsPartner]
  refine .of_psc (fun hl hn => absurd (hl.up_of_ps joint.2.2) hn) (fun _ => by simp [Port.enterDormant]) ?_
  rintro ⟨h1, h2, h3, h4, h5, h6, h7, h8, h9, h10, h11, h12, h13⟩
  have hvalid := h3 joint.2.1
  have hrs := h1.mpr joint.1
  have hrevival : ¬ p.psc.revival.isSome = true := fun h => by simp [h2.mpr h] at hrs
  constructor <;> simp [PS.joint, PS.needsPartner, PS.refreshes, Port.enterDormant, Psc.stopTimers, hvalid, hrs]
  simpa using hrevival

/-- Entry into DORMANT from a power state that asks nothing of the arbiter. -/
theorem Port.calm_enterDormant (ps : p.psc.ps = .deep ∨ p.psc.ps = .offerDormant) : p.Calm p.enterDormant :=
  ⟨Port.still_enterDormant (ps.imp_right .inl), by rcases ps with h | h <;> rw [h] <;> rfl⟩

/-- The withdrawal from GRANT-WAIT to DEEP (R43, R31). -/
theorem Port.still_returnDeep {r : GrantWait} (ps : p.psc.ps = .grantWait r) (depth : r.fromDepth = .deep) :
    p.Still (p.returnDeep now) := by
  refine .of_psc (fun hl hn => absurd (hl.up_of_ps (by simp [ps])) hn)
    (fun _ => by simp [Port.returnDeep, Port.startDormantTimer]) ?_
  rintro ⟨h1, h2, h3, h4, h5, h6, h7, h8, h9, h10, h11, h12, h13⟩
  constructor <;> simp_all [PS.joint, PS.needsPartner, PS.refreshes, Port.returnDeep, Port.startDormantTimer, after]

/-! ## The road back (chapters 2 and 3) -/

/-- A LOCAL wake from DIM or OFFER-DEEP holds no unit (R48, R65). -/
theorem Port.calm_beginLocal {wait : SleepDepth}
    (ps : (p.psc.ps = .dim ∧ wait = .dim) ∨ (p.psc.ps = .offerDeep ∧ wait = .deep)) :
    p.Calm (p.beginLocal now .dim wait false) := by
  rw [Port.beginLocal_eq]
  refine .of_psc (fun hl hn => absurd (hl.up_of_ps ?_) hn) (fun _ => by simp [inWake]) ?_ ?_
  · rcases ps with ⟨h, -⟩ | ⟨h, -⟩ <;> simp [h]
  · rintro ⟨h1, h2, h3, h4, h5, h6, h7, h8, h9, h10, h11, h12, h13⟩
    rcases ps with ⟨h, rfl⟩ | ⟨h, rfl⟩ <;>
      constructor <;> simp_all [PS.joint, PS.needsPartner, PS.refreshes, inWake, newWake]
  · rcases ps with ⟨h, -⟩ | ⟨h, -⟩ <;> simp [h, PS.demand, PS.holdsUnit, inWake, newWake]

/-- From a joint depth to GRANT-WAIT: the refresh timers run on from DEEP and OFFER-DORMANT, and stand stopped from
DORMANT (R41, R32). -/
theorem Port.still_enterGrantWait {r : GrantWait}
    (ps : (p.psc.ps = .deep ∧ r.fromDepth = .deep) ∨ (p.psc.ps = .offerDormant ∧ r.fromDepth = .deep) ∨
      (p.psc.ps = .dormant ∧ r.fromDepth = .dormant)) :
    p.Still { p with psc := { p.psc with ps := .grantWait r, dormantTimer := none, offerTimer := none } } := by
  refine .of_psc (fun hl hn => absurd (hl.up_of_ps ?_) hn) (by simp) ?_
  · rcases ps with ⟨h, -⟩ | ⟨h, -⟩ | ⟨h, -⟩ <;> simp [h]
  · rintro ⟨h1, h2, h3, h4, h5, h6, h7, h8, h9, h10, h11, h12, h13⟩
    rcases ps with ⟨h, hr⟩ | ⟨h, hr⟩ | ⟨h, hr⟩ <;>
      constructor <;> simp_all [PS.joint, PS.needsPartner, PS.refreshes]

/-- The grant: of the timers of R18 only a refresh watch that has reached its end runs on, in a wake from DEEP (R75, log
entry 28). -/
theorem Port.still_takeGrant (now : Nat) (p : Port) : p.Still (p.takeGrant now) := by
  cases h : p.psc.ps.isGrantWait with
  | false => rw [Port.takeGrant_of_not_waiting h]; exact .refl p
  | true =>
    obtain ⟨r, hr⟩ : ∃ r, p.psc.ps = .grantWait r := by cases hp : p.psc.ps <;> simp [hp, PS.isGrantWait] at h ⊢
    rw [Port.takeGrant_of_waiting hr]
    refine .of_psc (fun hl hn => absurd (hl.up_of_ps (by simp [hr])) hn) (fun _ => by simp [inWake]) ?_
    rintro ⟨h1, h2, h3, h4, h5, h6, h7, h8, h9, h10, h11, h12, h13⟩
    have hwatch : (p.psc.refreshWatch.filter fun x => decide (x ≤ now)).isSome = true → r.fromDepth = .deep := by
      intro hw
      have : p.psc.refreshWatch.isSome = true := by
        cases hx : p.psc.refreshWatch <;> simp [hx] at hw ⊢
      simpa [hr, PS.refreshes] using h10 this
    have hdim := JointDepth.toSleep_ne_dim
    constructor <;> simp_all [PS.joint, PS.needsPartner, PS.refreshes, inWake, newWake]
    exact fun _ => rfl

/-- A PARTNER wake from a joint depth (R49). -/
theorem Port.still_beginPartner {d : JointDepth}
    (ps : p.psc.ps = .deep ∨ p.psc.ps = .offerDormant ∨ p.psc.ps = .dormant ∨ ∃ r, p.psc.ps = .grantWait r) :
    p.Still (p.beginPartner now d) := by
  have joint : p.psc.ps.joint ∧ p.psc.ps.needsPartner ∧ p.psc.ps ≠ .offline := by
    rcases ps with h | h | h | ⟨r, h⟩ <;> simp [h, PS.joint, PS.needsPartner]
  rw [Port.beginPartner_eq]
  refine .of_psc (fun hl hn => absurd (hl.up_of_ps joint.2.2) hn) (fun _ => by simp [inWake]) ?_
  rintro ⟨h1, h2, h3, h4, h5, h6, h7, h8, h9, h10, h11, h12, h13⟩
  have hrs := h1.mpr joint.1
  have hdim := JointDepth.toSleep_ne_dim d
  have hvalid := h3 joint.2.1
  constructor <;> simp_all [PS.joint, PS.needsPartner, PS.refreshes, inWake, newWake]

/-! ## Within a wake (chapter 3) -/

/-- A change of a wake in its phase PARTNER, or of what it has seen in its phase SELF. -/
theorem Port.calm_setWake {w v : WakeRecord} (ps : p.psc.ps = .waking w) (origin : v.origin = w.origin)
    (depth : v.selfDepth = w.selfDepth) (wait : v.waitDepth = w.waitDepth) (phase : v.phase = w.phase)
    (budget : v.budgeted = w.budgeted) (timer : v.selfTimer = w.selfTimer)
    (later : (v.waitTimer = w.waitTimer ∧ v.deadlineTimer = w.deadlineTimer) ∨ w.phase = .partner) :
    p.Calm (p.setPs (.waking v)) := by
  refine .of_psc (fun hl hn => absurd (hl.up_of_ps (by simp [ps])) hn) (by simp) ?_
    (by simp [ps, PS.demand, PS.holdsUnit, phase, budget])
  rintro ⟨h1, h2, h3, h4, h5, h6, h7, h8, h9, h10, h11, h12, h13⟩
  constructor <;> simp_all [PS.joint, PS.needsPartner, PS.refreshes]
  rintro hself
  rcases later with ⟨hw, hd⟩ | hp
  · simpa [hw, hd] using h12 hself
  · simp [h11.mpr hself] at hp

/-- The receiver at the end of a SELF phase of self-depth DIM (R51). -/
theorem Port.calm_wakeReceiver {w : WakeRecord} (ps : p.psc.ps = .waking w) (depth : w.selfDepth = .dim) :
    p.Calm p.wakeReceiver := by
  refine .of_psc (fun hl hn => absurd (hl.up_of_ps (by simp [ps])) hn) id ?_
  intro h
  have hrs : p.psc.rs ≠ .joint := fun e => by
    have := h.joint.mp e
    simp [ps, PS.joint, depth] at this
  refine h.of_rs hrs ?_ ?_ <;> cases hp : p.psc.rs <;> simp_all [Port.wakeReceiver]

/-- Phase PARTNER of a LOCAL wake begins (R51, R52). -/
theorem Port.still_beginPartnerPhase {w : WakeRecord} (ps : p.psc.ps = .waking w) (origin : w.origin = .localEnd) :
    p.Still (p.beginPartnerPhase now w) := by
  refine .of_psc (fun hl hn => absurd (hl.up_of_ps (by simp [ps])) hn) (by simp [Port.beginPartnerPhase]) ?_
  rintro ⟨h1, h2, h3, h4, h5, h6, h7, h8, h9, h10, h11, h12, h13⟩
  constructor <;> simp_all [PS.joint, PS.needsPartner, PS.refreshes, Port.beginPartnerPhase]

/-- The end of a wake in ACTIVE (R60). -/
theorem Port.still_wakeEnd {w : WakeRecord} (ps : p.psc.ps = .waking w) : p.Still p.wakeEnd := by
  refine .of_psc (fun hl hn => absurd (hl.up_of_ps (by simp [ps])) hn) (by simp [Port.wakeEnd]) ?_
  rintro ⟨h1, h2, h3, h4, h5, h6, h7, h8, h9, h10, h11, h12, h13⟩
  constructor <;> simp_all [PS.joint, PS.needsPartner, PS.refreshes, Port.wakeEnd]

end

end Sys2Proof.Machine
end

section
-- One theorem at a time: their elaboration side by side would each hold a thread and its stack.
set_option Elab.async false

namespace Sys2Proof.Machine

/-! ## Advert unit (chapter 5) -/

section
variable {now : Nat} {p : Port}

/-- An exchange as after a link loss (R83, R96). -/
theorem Adu.linkLost_eq_self_iff (a : Adu) : a.linkLost = a ↔ a.state = .unsent ∧ a.retry = 0 ∧ a.echoTimer = none ∧
    a.image = none ∧ a.advertPending = false ∧ a.echoPending = none ∧ a.pa = {} := by
  cases a; simp [Adu.linkLost, eq_comm]

/-- LA in either copy is no part of the exchange (R83). -/
theorem Port.calm_setLa (staging live : LaRecord) (p : Port) :
    p.Calm { p with adu := { p.adu with laStaging := staging, laLive := live } } :=
  .of_adu (fun hl hn => (Adu.linkLost_eq_self_iff _).mpr ((Adu.linkLost_eq_self_iff p.adu).mp (hl.adu hn))) id

theorem Port.calm_stopEcho (p : Port) : p.Calm p.stopEcho :=
  .of_adu (fun hl hn => by rw [Port.stopEcho, ← hl.adu hn]; rfl) id

theorem Port.calm_retryAdvert (state : p.adu.state = .pending) : p.Calm p.retryAdvert :=
  .of_adu (fun hl hn => absurd (hl.up_of_state (by simp [state])) hn) id

theorem Port.calm_advertFailed (state : p.adu.state = .pending) : p.Calm p.advertFailed :=
  .of_adu (fun hl hn => absurd (hl.up_of_state (by simp [state])) hn) (fun _ => by simp [Port.advertFailed])

theorem Port.calm_echoed (up : p.lpe.link = .up) : p.Calm p.echoed :=
  .of_adu (fun _ hn => absurd up hn) (fun _ => by simp [Port.echoed])

theorem Port.calm_takeAdvert (up : p.lpe.link = .up) (a : Advert) : p.Calm (p.takeAdvert a) :=
  .of_adu (fun _ hn => absurd up hn) id (fun _ => rfl)

theorem Port.calm_advertSent (now : Nat) (seq : BitVec 4) (p : Port) : p.Calm (p.advertSent now seq) := by
  unfold Port.advertSent
  split
  · rename_i h
    exact .of_adu (fun hl hn => absurd (hl.up_of_state (by simp [h.1])) hn) id
  · exact .refl p

theorem Port.calm_hearEcho (now : Nat) (frame : MgmtFrame) (p : Port) : p.Calm (p.hearEcho now frame) := by
  unfold Port.hearEcho
  split
  · rename_i h
    have up : p.endManagement.lpe.link = .up := by
      rw [Port.endManagement_eq]
      simp [Port.observesFrames] at h
      exact h.1
    refine p.calm_endManagement.trans ?_
    simp only
    split
    · exact Port.calm_count _ _
    · split
      · exact (Port.calm_echoed up).trans (Port.calm_idleUpdate _ _)
      · exact .refl _
  · exact .refl p

/-! ## Depth governor (chapter 8) -/

theorem Depth.lower_level_le (d : Depth) : d.lower.level ≤ d.level := by cases d <;> decide

theorem Depth.higher_level_le {c d : Depth} (h : c.level < d.level) : c.higher.level ≤ d.level := by
  cases c <;> cases d <;> first | decide | (revert h; decide)

/-- A threshold in the range of section 9.1 is at least 1. -/
theorem PortConfig.threshold_pos {c : PortConfig} (h : c.inRange = true) : 0 < c.failThreshold.toNat := by
  simp only [PortConfig.inRange, Bool.and_eq_true, decide_eq_true_eq] at h
  omega

theorem Port.calm_failure (now : Nat) (p : Port) : p.Calm (p.failure now) := by
  have counted_off : p.LinkLaw → p.lpe.link ≠ .up → (p.countFailure now).dgv.restore = none := fun hl hn => by
    simp [Port.countFailure, hn, hl.restore hn]
  rw [Port.failure_eq]
  split
  · have alike : (p.countFailure now).drop.lpe = p.lpe ∧ (p.countFailure now).drop.psc = p.psc ∧
        (p.countFailure now).drop.adu = p.adu ∧ (p.countFailure now).drop.txq = p.txq ∧
        (p.countFailure now).drop.ssp = p.ssp ∧ (p.countFailure now).drop.cfg = p.cfg ∧
        (p.countFailure now).drop.slot = p.slot ∧
        (p.countFailure now).drop.dgv = { (p.countFailure now).dgv with failures := 0, ceiling := p.dgv.ceiling.lower } := by
      unfold Port.drop; split <;> exact ⟨rfl, rfl, rfl, rfl, rfl, rfl, rfl, rfl⟩
    obtain ⟨hlpe, hpsc, hadu, htxq, hssp, hcfg, hslot, hdgv⟩ := alike
    refine .of_dgv (fun hl hn => by rw [hdgv]; exact counted_off hl hn) ?_ (by rw [hlpe]) (by rw [hlpe]) hpsc hadu htxq hssp
      hcfg (by rw [hslot])
    rintro ⟨hrange, haging, hfail, hceil⟩
    refine ⟨hcfg ▸ hrange, hcfg ▸ haging, ?_, ?_⟩ <;> rw [hcfg, hdgv]
    · exact PortConfig.threshold_pos hrange
    · exact p.dgv.ceiling.lower_level_le.trans hceil
  · rename_i hlow
    refine .of_dgv counted_off ?_
    rintro ⟨hrange, haging, hfail, hceil⟩
    exact ⟨hrange, haging, not_le.mp hlow, hceil⟩

theorem Port.calm_restoreDue (restore : p.dgv.restore ≠ none) : p.Calm (p.restoreDue now) := by
  have off : p.LinkLaw → p.lpe.link ≠ .up → False := fun hl hn => restore (hl.restore hn)
  unfold Port.restoreDue
  split
  · rename_i hlow
    rw [Port.raiseCeiling_eq]
    refine .of_dgv (fun hl hn => (off hl hn).elim) ?_
    rintro ⟨hrange, haging, hfail, hceil⟩
    exact ⟨hrange, haging, hfail, Depth.higher_level_le hlow⟩
  · refine .of_dgv (fun hl hn => (off hl hn).elim) ?_
    rintro ⟨hrange, haging, hfail, hceil⟩
    exact ⟨hrange, haging, hfail, hceil⟩

theorem Port.calm_restoreCeiling (p : Port) : p.Calm p.restoreCeiling := by
  rw [Port.restoreCeiling_eq]
  refine .of_dgv (fun hl hn => hl.restore hn) ?_
  rintro ⟨hrange, haging, hfail, hceil⟩
  exact ⟨hrange, haging, PortConfig.threshold_pos hrange, le_rfl⟩

theorem Port.calm_refreshLost (now : Nat) (p : Port) : p.Calm (p.refreshLost now) :=
  (p.calm_count _).trans (Port.calm_failure _ _)

theorem Port.calm_wakeMissed (now : Nat) (p : Port) : p.Calm (p.wakeMissed now) :=
  ((p.calm_count _).trans (Port.calm_raise _ _)).trans (Port.calm_failure _ _)

theorem Port.calm_offerTimedOut (now : Nat) (p : Port) : p.Calm (p.offerTimedOut now) :=
  (p.calm_count _).trans (Port.calm_failure _ _)

theorem Port.calm_reportDue (first : Bool) (now : Nat) (was p : Port) : p.Calm (p.reportDue first now was) := by
  unfold Port.reportDue
  split <;> split
  · exact (p.calm_refreshLost now).trans (Port.calm_wakeMissed ..)
  · exact p.calm_refreshLost now
  · exact p.calm_wakeMissed now
  · exact .refl p

/-! ## The transmitter and the queue's watches -/

theorem Port.calm_takeCandidate (aging : p.txq.agingDeadline ≠ none) : p.Calm p.takeCandidate := by
  rw [Port.takeCandidate_eq]
  exact .of_line fun hl hn => absurd (hl.up_of_txq fun e => aging (by rw [e])) hn

theorem Port.calm_scheduleRemoval (flush : p.txq.flush ≠ none) : p.Calm (p.scheduleRemoval now) :=
  .of_line (fun hl hn => absurd (hl.up_of_txq fun e => flush (by rw [e])) hn)
    (flush := by cases h : p.txq.flush <;> simp [Port.scheduleRemoval, h])

theorem Port.calm_clearRelease (p : Port) : p.Calm p.clearRelease :=
  .of_line fun hl hn => ⟨hl.tx hn, hl.rx hn, by simp [Port.clearRelease, hl.txq hn]⟩

theorem Port.calm_clearUrgency (p : Port) : p.Calm p.clearUrgency :=
  .of_line fun hl hn => ⟨hl.tx hn, hl.rx hn, by simp [Port.clearUrgency, hl.txq hn]⟩

/-- The watches of a queue with a head, or cleared (R130, R137). -/
theorem Port.calm_setWatches {release urgency : Option Nat}
    (queue : p.txq.queue = [] → release = none ∧ urgency = none) :
    p.Calm { p with txq := { p.txq with releaseWatch := release, urgencyWatch := urgency } } :=
  .of_line fun hl hn => ⟨hl.tx hn, hl.rx hn, by simp [hl.txq hn, queue (by rw [hl.txq hn])]⟩

theorem Port.calm_passByte (b : Byte) (p : Port) : p.Calm (p.passByte b) := by
  unfold Port.passByte
  split
  · rename_i e check htx
    exact .of_line (fun hl hn => absurd (hl.up_of_tx (by simp [htx])) hn) (by simp [htx])
  · exact .refl p

theorem Port.calm_endBypass (e : BypassEnd) (p : Port) : p.Calm (p.endBypass e) := by
  unfold Port.endBypass
  split
  · rename_i check htx
    exact .of_line (fun hl hn => absurd (hl.up_of_tx (by simp [htx])) hn) (by simp [htx])
  · exact .refl p

theorem Port.calm_abortBypass (p : Port) : p.Calm p.abortBypass := (p.calm_discard _).trans (Port.calm_endBypass _ _)

/-- The end of a frame in flight that is none of the queue (R12). -/
theorem Port.calm_finishTx {last : LineTx} (tx : ∀ c, p.lpe.tx ≠ .busy .queued c) : p.Calm (p.finishTx last) :=
  .of_line (fun hl hn => ⟨rfl, hl.rx hn, hl.txq hn⟩) (by simp [Port.finishTx, tx])

end

end Sys2Proof.Machine
end

section
-- One theorem at a time: their elaboration side by side would each hold a thread and its stack.
set_option Elab.async false

namespace Sys2Proof.Machine

/-! ## The queue with one descriptor taken out -/

/-- A descriptor at a place splits the queue, which without it is what stands before and behind it. -/
theorem exists_split_of_getElem? {α : Type} {l : List α} {i : Nat} {d : α} (h : l[i]? = some d) :
    ∃ before after, l = before ++ d :: after ∧ before.length = i ∧ l.eraseIdx i = before ++ after := by
  obtain ⟨hi, rfl⟩ := List.getElem?_eq_some_iff.mp h
  refine ⟨l.take i, l.drop (i + 1), ?_, by simp; omega, List.eraseIdx_eq_take_drop_succ ..⟩
  rw [← List.drop_eq_getElem_cons hi, List.take_append_drop]

/-- What stands before the last of the rest stood before the last already. -/
theorem mem_dropLast_of_split {α : Type} {before after : List α} {d x : α} (h : x ∈ (before ++ after).dropLast) :
    x ∈ (before ++ d :: after).dropLast := by
  rw [List.dropLast_append_of_ne_nil (List.cons_ne_nil d after)]
  cases after with
  | nil => simpa using List.mem_of_mem_dropLast (by simpa using h)
  | cons a rest =>
    rw [List.dropLast_append_of_ne_nil (List.cons_ne_nil a rest)] at h
    rw [List.dropLast_cons_of_ne_nil (List.cons_ne_nil a rest)]
    simp only [List.mem_append, List.mem_cons] at h ⊢
    exact h.imp_right .inr

/-- What stands behind the first of the rest stood behind the first already. -/
theorem mem_tail_of_split {α : Type} {before after : List α} {d x : α} (h : x ∈ (before ++ after).tail) :
    x ∈ (before ++ d :: after).tail := by
  cases before with
  | nil => exact List.mem_of_mem_tail h
  | cons b rest =>
    simp only [List.cons_append, List.tail_cons, List.mem_append, List.mem_cons] at h ⊢
    exact h.imp_right .inr

/-- A FILLING descriptor is the last one (R112). -/
theorem Port.QueueLaw.filling_last {p : Port} {before after : List Descriptor} {d : Descriptor} (h : p.QueueLaw)
    (queue : p.txq.queue = before ++ d :: after) (state : d.state = .filling) :
    after = [] ∧ ∀ x ∈ before, x.state ≠ .filling := by
  have tail := h.tail
  rw [queue, List.dropLast_append_of_ne_nil (List.cons_ne_nil d after)] at tail
  refine ⟨?_, fun x hx => tail x (List.mem_append_left _ hx)⟩
  cases after with
  | nil => rfl
  | cons a rest => exact absurd state (tail d (by simp))

/-- The descriptor is the last marked one of a FLUSH, which its removal ends (R118). -/
def Port.lastMarked (p : Port) (d : Descriptor) : Bool := d.mark && p.txq.flush.any fun f => decide (f.left ≤ 1)

/-- One marked descriptor less: the FLUSH ends with its last, and else its number falls by one (R118). -/
theorem Port.flushStep_eq (p : Port) :
    p.flushStep =
      if p.txq.flush.any (fun f => decide (f.left ≤ 1)) then { p with
        txq := { p.txq with flush := none }
        slot := { busy := false, command := .flush, result := .done, reason := .none }
        flags := p.flags ||| BitVec.twoPow 11 9 }
      else { p with txq := { p.txq with flush := p.txq.flush.map fun f => { f with left := f.left - 1 } } } := by
  obtain ⟨_, _, _, ⟨_, flush, _, _, _⟩, _, _, _, _, _, _, _, _, _, _⟩ := p
  cases flush with
  | none => rfl
  | some f => by_cases h : f.left ≤ 1 <;> simp [Port.flushStep, h, Port.endFlush, Port.done, Port.raise, PortFlag.bit]

/-- The removal of a descriptor, in full (R117). -/
theorem Port.takeOut_eq (i : Nat) (d : Descriptor) (c : Counter) (p : Port) :
    p.takeOut i d c = { p with
      txq := { p.txq with
        queue := p.txq.queue.eraseIdx i
        flush := if p.lastMarked d then none else
          if d.mark then p.txq.flush.map fun f => { f with left := f.left - 1 } else p.txq.flush
        agingDeadline :=
          if p.txq.queue.findIdx? (fun x => x.state != .transmitting) = some i then
            deadlineFor p.cfg (p.txq.queue.eraseIdx i) else p.txq.agingDeadline }
      ssp := { p.ssp with
        ingress := if d.state = .filling then p.ssp.ingress.map fun g => { g with route := .ignore } else p.ssp.ingress }
      slot := if p.lastMarked d then { busy := false, command := .flush, result := .done, reason := .none } else p.slot
      counters := p.counters.bump c
      flags := if p.lastMarked d then p.flags ||| BitVec.twoPow 11 8 ||| BitVec.twoPow 11 9
        else p.flags ||| BitVec.twoPow 11 8 } := by
  have hidx : (p.txq.candidateIdx == some i) =
      decide (p.txq.queue.findIdx? (fun x => x.state != .transmitting) = some i) := by
    rw [Bool.beq_eq_decide_eq]; rfl
  unfold Port.takeOut
  simp only [hidx, Port.flushStep_eq, Port.takeCandidate_eq, Port.lastMarked, Port.discard, Port.count, Port.raise,
    Port.ignoreIngress, PortFlag.bit]
  by_cases hstate : d.state = .filling <;> by_cases hmark : d.mark = true <;>
    by_cases hlast : p.txq.flush.any (fun f => decide (f.left ≤ 1)) = true <;>
    by_cases haged : p.txq.queue.findIdx? (fun x => x.state != .transmitting) = some i <;>
    simp [hstate, hmark, hlast, haged]

/-- The removal of a descriptor that is not on the line keeps the laws of the port (R117). -/
theorem Port.keeps_takeOut {i : Nat} {d : Descriptor} {c : Counter} {p : Port} (at_ : p.txq.queue[i]? = some d)
    (state : p.QueueLaw → d.state ≠ .transmitting) : p.Keeps (p.takeOut i d c) := by
  have nonempty : p.txq ≠ {} := fun e => by simp [e] at at_
  obtain ⟨before, after, split, -, erased⟩ := exists_split_of_getElem? at_
  rw [Port.takeOut_eq, erased]
  refine ⟨fun hl => ?_, fun _ h => h.congr, fun h => h.congr, fun _ h => ?_⟩
  · have up := hl.up_of_txq nonempty
    exact hl.of_up up (hl.online up) (hl.advertised up)
  · have still_others (Q : Descriptor → Prop) (hd : ¬ Q d) :
        (∃ x ∈ before ++ after, Q x) ↔ ∃ x ∈ p.txq.queue, Q x := by
      rw [split]
      simp only [List.mem_append, List.mem_cons, or_and_right, exists_or, exists_eq_left, hd, false_or]
    have sub : ∀ x ∈ before ++ after, x ∈ p.txq.queue := fun x hx => by
      rw [split]; simp only [List.mem_append, List.mem_cons] at hx ⊢; exact hx.imp_right .inr
    have marks := h.marks
    rw [split, List.countP_append, List.countP_cons] at marks
    refine ⟨?_, ?_, ?_, ?_, ?_, fun x hx => h.unmarked x (sub x hx), fun x hx => h.size x (sub x hx),
      fun x hx => h.cells x (sub x hx), ?_, ?_, ?_⟩
    · have := h.length
      rw [split] at this
      simp only [List.length_append, List.length_cons] at this ⊢
      omega
    · exact fun x hx => h.tail x (split ▸ mem_dropLast_of_split hx)
    · by_cases hfill : d.state = .filling
      · obtain ⟨rfl, others⟩ := h.filling_last split hfill
        refine iff_of_false (by simpa using others) ?_
        simp only [if_pos hfill]
        cases p.ssp.ingress <;> simp
      · simp only [if_neg hfill]
        rw [still_others _ hfill]
        exact h.filling
    · exact fun x hx => h.head x (split ▸ mem_tail_of_split hx)
    · rw [still_others _ (state h)]
      exact h.sending
    · have busy := h.busy
      cases hlast : p.lastMarked d <;> simp only [if_true, if_false, Bool.false_eq_true]
      · rw [busy]; split <;> cases p.txq.flush <;> simp
      · simp
    · simp only [List.countP_append]
      cases hm : d.mark with
      | false => simpa [Port.lastMarked, hm] using marks
      | true =>
        cases hf : p.txq.flush with
        | none => simp [hf, hm] at marks
        | some f =>
          simp only [hf, hm, if_true, Option.map_some, Option.getD_some] at marks
          by_cases hlast : f.left ≤ 1
          · simp only [Port.lastMarked, hf, hm, Option.any_some, hlast, decide_true, Bool.and_self, if_true,
              Option.map_none, Option.getD_none]
            omega
          · simp only [Port.lastMarked, hf, hm, Option.any_some, hlast, decide_false, Bool.and_false, if_true,
              Bool.false_eq_true, if_false, Option.map_some, Option.getD_some]
            omega
    · have left := h.left
      cases hf : p.txq.flush with
      | none => simp
      | some f =>
        have := left f hf
        cases hm : d.mark <;> by_cases hlast : f.left ≤ 1 <;> simp [Port.lastMarked, hf, hm, hlast] <;> omega

end Sys2Proof.Machine
end

section
-- One theorem at a time: their elaboration side by side would each hold a thread and its stack.
set_option Elab.async false

namespace Sys2Proof.Machine

/-! ## The frame in progress -/

section
variable {now : Nat} {p : Port}

/-- The frame in progress changed, where none is queued before or after (R105). -/
theorem Port.calm_setIngress {g : Option Ingress} (after : ∀ x, g = some x → x.route ≠ .queued)
    (off : p.LinkLaw → p.lpe.link ≠ .up → ∀ x, g = some x → x.route = .ignore)
    (free : p.QueueLaw → ∀ x, p.ssp.ingress = some x → x.route ≠ .queued) : p.Calm (p.setIngress g) where
  link h := by
    have hoff := off h
    obtain ⟨h1, h2, h3, h4, h5, h6, h7, h8, h9, h10⟩ := h
    exact ⟨h1, h2, h3, h4, h5, h6, hoff, h8, h9, h10⟩
  sleep _ h := h.congr
  governor h := h.congr
  queue _ h := by
    have hfree := free h
    obtain ⟨h1, h2, h3, h4, h5, h6, h7, h8, h9, h10, h11⟩ := h
    have filling : ¬ ∃ d ∈ p.txq.queue, d.state = .filling := fun e => by
      obtain ⟨x, hx, hr⟩ := h3.mp e
      exact hfree x hx hr
    exact ⟨h1, h2, iff_of_false filling fun ⟨x, hx, hr⟩ => after x hx hr, h4, h5, h6, h7, h8, h9, h10, h11⟩
  cells := rfl
  cfg := rfl
  demand := rfl

/-- The record of the frame in progress with the same route (R105). -/
theorem Port.calm_setIngress_route {g x : Ingress} (before : p.ssp.ingress = some g) (route : x.route = g.route) :
    p.Calm (p.setIngress (some x)) where
  link h := by
    obtain ⟨h1, h2, h3, h4, h5, h6, h7, h8, h9, h10⟩ := h
    exact ⟨h1, h2, h3, h4, h5, h6, fun hn y hy => by cases hy; exact route.trans (h7 hn g before), h8, h9, h10⟩
  sleep _ h := h.congr
  governor h := h.congr
  queue _ h := h.congr (ingress := by simp [before, route])
  cells := rfl
  cfg := rfl
  demand := rfl

/-! ## A queued frame from admission to completion (R112) -/

/-- A descriptor appended to the queue, in full (R107, R133). -/
theorem Port.append_eq (d : Descriptor) (p : Port) :
    p.append d = { p with
      txq := { p.txq with
        queue := p.txq.queue ++ [d]
        agingDeadline := if ∀ x ∈ p.txq.queue, x.state = .transmitting then deadlineFor p.cfg (p.txq.queue ++ [d])
          else p.txq.agingDeadline }
      counters := { p.counters with admitted := satAdd p.counters.admitted 1 } } := by
  have had : p.txq.candidate.isSome = true ↔ ¬ ∀ x ∈ p.txq.queue, x.state = .transmitting := by
    simp [Txq.candidate, Descriptor.isTransmitting, List.find?_isSome]
  unfold Port.append
  simp only [had, Port.takeCandidate_eq, Port.count, Counters.bump, satInc_eq_satAdd]
  split <;> simp_all

/-- A frame admitted to a queue without a FILLING descriptor becomes the frame in progress (R107, R112). -/
theorem Port.QueueLaw.of_admission (h : p.QueueLaw) {d : Descriptor} {g : Ingress}
    (free : ∀ x, p.ssp.ingress = some x → x.route ≠ .queued) (room : p.txq.queue.length < 128)
    (state : d.state = .filling) (mark : d.mark = false) (size : 64 ≤ d.length ∧ d.length ≤ 2048)
    (cells : d.cells.length = (d.length + 127) / 128) (route : g.route = .queued) :
    ((p.setIngress (some g)).append d).QueueLaw := by
  rw [Port.append_eq]
  have none_filling : ∀ x ∈ p.txq.queue, x.state ≠ .filling := fun x hx hf => by
    obtain ⟨y, hy, hr⟩ := h.filling.mp ⟨x, hx, hf⟩
    exact free y hy hr
  have old_or_new {Q : Descriptor → Prop} (old : ∀ x ∈ p.txq.queue, Q x) (new : Q d) :
      ∀ x ∈ p.txq.queue ++ [d], Q x := by
    simpa [or_imp, forall_and] using ⟨old, new⟩
  refine ⟨?_, ?_, ?_, ?_, ?_, old_or_new h.unmarked (by simp [state]), old_or_new h.size size, old_or_new h.cells cells,
    h.busy, ?_, h.left⟩
  · simp; omega
  · simpa using none_filling
  · exact iff_of_true ⟨d, by simp, state⟩ ⟨g, rfl, route⟩
  · intro x hx
    have hsplit : x ∈ p.txq.queue.tail ∨ x = d := by
      cases hq : p.txq.queue <;> simp [hq] at hx ⊢
      exact hx
    rcases hsplit with hx | rfl
    · exact h.head x hx
    · simp [state]
  · exact .trans (by simp [or_and_right, exists_or, state]) h.sending
  · simpa [mark] using h.marks

/-- A change of the element behind what stands before it. -/
theorem modify_at_split {α : Type} (f : α → α) (before : List α) (d : α) (after : List α) :
    (before ++ d :: after).modify before.length f = before ++ f d :: after := by
  induction before with
  | nil => rfl
  | cons b rest ih => simpa using ih

/-- The FILLING descriptor becomes COMPLETE at the end of its frame (R109). -/
theorem Port.calm_completeFilling {i : Nat} (idx : p.txq.fillingIdx = some i) :
    p.Calm ((p.completeFilling i).setIngress none) := by
  obtain ⟨hi, hstate, -⟩ := List.findIdx?_eq_some_iff_getElem.mp idx
  obtain ⟨before, after, split, rfl, -⟩ := exists_split_of_getElem? (List.getElem?_eq_getElem hi)
  generalize p.txq.queue[before.length] = d at split hstate
  have hstate : d.state = .filling := by simpa using hstate
  have modified : p.txq.queue.modify before.length (fun d => { d with state := .complete }) =
      before ++ { d with state := .complete } :: after := by rw [split, modify_at_split]
  unfold Port.completeFilling
  rw [modified]
  have nonempty : p.txq ≠ {} := fun e => by simp [e] at split
  refine ⟨⟨⟨fun hl => ?_, fun _ h => h.congr, fun h => h.congr, fun _ h => ?_⟩, ?_, rfl⟩, rfl⟩
  · have up := hl.up_of_txq nonempty
    exact hl.of_up up (hl.online up) (hl.advertised up)
  · obtain ⟨rfl, others⟩ := h.filling_last split hstate
    obtain ⟨h1, h2, h3, h4, h5, h6, h7, h8, h9, h10, h11⟩ := h
    rw [split] at h1 h2 h4 h5 h6 h7 h8 h10
    refine ⟨?_, ?_, ?_, ?_, ?_, ?_, ?_, ?_, h9, ?_, h11⟩
    · simpa using h1
    · simpa using others
    · exact iff_of_false (by simpa [or_imp, forall_and] using others) (by simp)
    · cases before with
      | nil => simp
      | cons b rest =>
        simp [or_imp, forall_and] at h4 ⊢
        exact h4.1
    · exact .trans (by simp [or_and_right, exists_or, hstate]) h5
    · simp [or_imp, forall_and] at h6 ⊢
      exact h6.1
    · simpa [or_imp, forall_and] using h7
    · simpa [or_imp, forall_and] using h8
    · simpa using h10
  · simp [Port.setIngress, split]

/-- A descriptor on the line is passed over by the aging candidate (R133). -/
theorem deadlineFor_cons_transmitting {d : Descriptor} (h : d.state = .transmitting) (cfg : PortConfig)
    (rest : List Descriptor) : deadlineFor cfg (d :: rest) = deadlineFor cfg rest := by
  simp [deadlineFor, h]

/-- The transmission start of the head, in full (R114, R131, R133). -/
theorem Port.startData_eq {bytes : List Byte} {d : Descriptor} {rest : List Descriptor}
    (queue : p.txq.queue = d :: rest) :
    p.startData now bytes =
      let sent := dataHeaderBytes (BitVec.ofNat 16 d.length) d.tag ++ bytes
      { p with
        lpe := { p.lpe with tx := .busy .queued (crcBytes crcInit sent) }
        lineOut := p.lineOut ++ [.frameStart sent]
        counters := { p.counters with
          late := satAdd p.counters.late (match d.release with | some t => if t < now then 1 else 0 | none => 0) }
        txq := { p.txq with
          queue := { d with state := .transmitting } :: rest
          releaseWatch := none
          agingDeadline := deadlineFor p.cfg rest } } := by
  unfold Port.startData
  simp only [queue, Port.takeCandidate_eq]
  cases hr : d.release with
  | none => simp [Port.emit, Port.setTx, deadlineFor_cons_transmitting]
  | some t => by_cases ht : t < now <;>
      simp [Port.emit, Port.setTx, Port.count, Counters.bump, satInc_eq_satAdd, deadlineFor_cons_transmitting, ht]

theorem Port.calm_startData {bytes : List Byte} (eligible : p.headEligible now = true) :
    p.Calm (p.startData now bytes) := by
  obtain ⟨d, rest, queue, state, mark⟩ : ∃ d rest, p.txq.queue = d :: rest ∧ d.state = .complete ∧ d.mark = false := by
    unfold Port.headEligible at eligible
    split at eligible
    · cases eligible
    · rename_i d rest hq
      simp only [Bool.and_eq_true, beq_iff_eq, Bool.not_eq_true'] at eligible
      exact ⟨d, rest, hq, eligible.1⟩
  have nonempty : p.txq ≠ {} := fun e => by simp [e] at queue
  rw [Port.startData_eq queue]
  refine ⟨⟨⟨fun hl => ?_, fun _ h => h.congr, fun h => h.congr, fun _ h => ?_⟩, by simp [queue], rfl⟩, rfl⟩
  · have up := hl.up_of_txq nonempty
    exact hl.of_up up (hl.online up) (hl.advertised up)
  · have silent : ∀ x ∈ rest, x.state ≠ .transmitting := by simpa [queue] using h.head
    obtain ⟨h1, h2, h3, h4, h5, h6, h7, h8, h9, h10, h11⟩ := h
    rw [queue] at h1 h2 h3 h6 h7 h8 h10
    refine ⟨by simpa using h1, ?_, ?_, silent, ?_, ?_, ?_, ?_, h9, ?_, h11⟩
    · cases rest with
      | nil => simp
      | cons b l =>
        simp only [List.dropLast_cons_of_ne_nil (List.cons_ne_nil b l), List.mem_cons, forall_eq_or_imp] at h2 ⊢
        exact ⟨by simp, h2.2⟩
    · exact .trans (by simp [state]) h3
    · exact iff_of_true ⟨_, List.mem_cons_self .., rfl⟩ ⟨_, rfl⟩
    · simp only [List.mem_cons, forall_eq_or_imp] at h6 ⊢
      exact ⟨fun _ => mark, h6.2⟩
    · simpa using h7
    · simpa using h8
    · simpa [List.countP_cons] using h10

/-- The end of the queued frame in flight: its descriptor leaves the queue (R12, R114). -/
theorem Port.keeps_completeHead {check : BitVec 16} {d : Descriptor} {rest : List Descriptor} {last : LineTx}
    (tx : p.lpe.tx = .busy .queued check) (queue : p.txq.queue = d :: rest) (state : d.state = .transmitting) :
    p.Keeps (({ p.finishTx last with txq := { p.txq with queue := rest } } : Port).count .txFrames) := by
  refine ⟨fun hl => ?_, fun _ h => h.congr, fun h => h.congr, fun _ h => ?_⟩
  · have up := hl.up_of_tx (by simp [tx])
    exact hl.of_up up (hl.online up) (hl.advertised up)
  · have silent : ∀ x ∈ rest, x.state ≠ .transmitting := by simpa [queue] using h.head
    have mark : d.mark = false := h.unmarked d (by simp [queue]) state
    obtain ⟨h1, h2, h3, h4, h5, h6, h7, h8, h9, h10, h11⟩ := h
    rw [queue] at h1 h2 h3 h6 h7 h8 h10
    simp only [List.mem_cons, forall_eq_or_imp] at h6 h7 h8
    refine ⟨?_, ?_, ?_, ?_, ?_, h6.2, h7.2, h8.2, h9, ?_, h11⟩
    · simp at h1 ⊢; omega
    · cases rest with
      | nil => simp
      | cons b l =>
        simp only [List.dropLast_cons_of_ne_nil (List.cons_ne_nil b l), List.mem_cons, forall_eq_or_imp] at h2
        exact h2.2
    · exact .trans (by simp [state]) h3
    · exact fun x hx => silent x (List.mem_of_mem_tail hx)
    · exact iff_of_false (by simpa using silent) (by simp [Port.finishTx])
    · simpa [List.countP_cons, mark] using h10

/-- A queued frame in flight without its descriptor at the head is none that the queue law knows. -/
theorem Port.QueueLaw.head_transmitting {check : BitVec 16} (h : p.QueueLaw) (tx : p.lpe.tx = .busy .queued check) :
    ∃ d rest, p.txq.queue = d :: rest ∧ d.state = .transmitting := by
  obtain ⟨d, hd, hs⟩ := h.sending.mpr ⟨check, tx⟩
  have head := h.head
  cases hq : p.txq.queue with
  | nil => simp [hq] at hd
  | cons e rest =>
    refine ⟨e, rest, rfl, ?_⟩
    rw [hq] at hd head
    rcases List.mem_cons.mp hd with rfl | hd
    · exact hs
    · exact absurd hs (head d hd)

theorem Port.still_finishTx_queued {check : BitVec 16} {last : LineTx} (tx : p.lpe.tx = .busy .queued check)
    (head : ∀ d rest, p.txq.queue = d :: rest → d.state ≠ .transmitting) : p.Calm (p.finishTx last) := by
  refine ⟨⟨⟨fun hl => ?_, fun _ h => h.congr, fun h => h.congr, fun _ h => ?_⟩, rfl, rfl⟩, rfl⟩
  · have up := hl.up_of_tx (by simp [tx])
    exact hl.of_up up (hl.online up) (hl.advertised up)
  · obtain ⟨d, rest, hq, hs⟩ := h.head_transmitting tx
    exact absurd hs (head d rest hq)

/-! ## FLUSH (R118, R164) -/

theorem Port.calm_done {c : SlotCommand} (busy : p.slot.busy = false) : p.Calm (p.done c) :=
  .of_alike (busy := busy.symm)

/-- The descriptor with its flush mark, unless it is on the line (R118). -/
theorem marked_state (d : Descriptor) : (if d.isTransmitting then d else { d with mark := true }).state = d.state := by
  split <;> rfl

theorem marked_length (d : Descriptor) :
    (if d.isTransmitting then d else { d with mark := true }).length = d.length := by split <;> rfl

theorem marked_cells (d : Descriptor) :
    (if d.isTransmitting then d else { d with mark := true }).cells = d.cells := by split <;> rfl

theorem Port.calm_beginFlush (busy : p.slot.busy = false) (some_ : p.txq.markable ≠ 0) : p.Calm (p.beginFlush now) := by
  have nonempty : p.txq ≠ {} := fun e => by simp [e, Txq.markable] at some_
  refine ⟨⟨⟨fun hl => ?_, fun _ h => h.congr, fun h => h.congr, fun _ h => ?_⟩, ?_, rfl⟩, rfl⟩
  · have up := hl.up_of_txq nonempty
    exact hl.of_up up (hl.online up) (hl.advertised up)
  · obtain ⟨h1, h2, h3, h4, h5, h6, h7, h8, h9, h10, h11⟩ := h
    have flush : p.txq.flush = none := by simpa [busy] using h9
    have unmarked : ∀ d ∈ p.txq.queue, d.mark = false := by simpa [flush, List.countP_eq_zero] using h10
    refine ⟨by simpa [Port.beginFlush] using h1, ?_, ?_, ?_, ?_, ?_, ?_, ?_, by simp [Port.beginFlush], ?_, ?_⟩
    · simpa [Port.beginFlush, ← List.map_dropLast, marked_state] using h2
    · exact .trans (by simp [Port.beginFlush, marked_state]) h3
    · simpa [Port.beginFlush, ← List.map_tail, marked_state] using h4
    · exact .trans (by simp [Port.beginFlush, marked_state]) h5
    · simp only [Port.beginFlush, List.forall_mem_map, marked_state]
      intro d hd hs
      simpa [Descriptor.isTransmitting, hs] using unmarked d hd
    · simpa [Port.beginFlush, marked_length] using h7
    · simpa [Port.beginFlush, marked_length, marked_cells] using h8
    · have marked (d : Descriptor) (hd : d ∈ p.txq.queue) :
          (if d.isTransmitting then d else { d with mark := true }).mark = !d.isTransmitting := by
        split <;> simp_all
      simp only [Port.beginFlush, List.countP_map, Option.map_some, Option.getD_some, Txq.markable,
        ← List.countP_eq_length_filter]
      exact List.countP_congr fun d hd => by simp [marked d hd]
    · simp only [Port.beginFlush, Option.some.injEq, forall_eq']
      omega
  · simp [Port.beginFlush, marked_cells]

theorem Port.calm_endFlush (marked : p.txq.queue.findIdx? (·.mark) = none) (flush : p.txq.flush ≠ none) :
    p.Calm p.endFlush := by
  refine ⟨⟨⟨fun hl => ?_, fun _ h => h.congr, fun h => h.congr, fun _ h => ?_⟩, rfl, rfl⟩, rfl⟩
  · have up := hl.up_of_txq (fun e => flush (by rw [e]))
    exact hl.of_up up (hl.online up) (hl.advertised up)
  · obtain ⟨f, hf⟩ := Option.ne_none_iff_exists'.mp flush
    have none_marked : p.txq.queue.countP (·.mark) = 0 := by
      simpa [List.countP_eq_zero] using marked
    have := h.left f hf
    simp [h.marks, hf] at none_marked
    omega

end

end Sys2Proof.Machine
end

section
/-! What every step keeps, of the whole device: each shared operation takes a state that keeps the laws to one that does.
`State.Keeps` bundles the laws, so that a chain of operations is one chain of such steps. -/

-- One theorem at a time: their elaboration side by side would each hold a thread and its stack.
set_option Elab.async false

namespace Sys2Proof.Machine

/-! ## The ports taken one by one -/

/-- Every port but port n. -/
def otherPorts (n : PortId) : List PortId := allPorts.erase n

theorem allPorts_perm (n : PortId) : allPorts.Perm (n :: otherPorts n) := List.perm_cons_erase (mem_allPorts n)

theorem ne_of_mem_otherPorts {n m : PortId} (h : m ∈ otherPorts n) : m ≠ n :=
  fun e => (List.Nodup.not_mem_erase (by decide : allPorts.Nodup)) (e ▸ h)

/-- A sum over the ports is the share of port n and that of the others. -/
theorem sum_ports_split (n : PortId) (f : PortId → Nat) :
    (allPorts.map f).sum = f n + ((otherPorts n).map f).sum := by
  rw [((allPorts_perm n).map f).sum_eq, List.map_cons, List.sum_cons]

theorem countP_ports_split (n : PortId) (f : PortId → Bool) :
    allPorts.countP f = (otherPorts n).countP f + if f n then 1 else 0 := by
  rw [(allPorts_perm n).countP_eq, List.countP_cons]

/-- A sum over the other ports sees nothing of a change at port n. -/
theorem map_otherPorts_congr {α : Type} {n : PortId} {f g : PortId → α} (h : ∀ m, m ≠ n → f m = g m) :
    (otherPorts n).map f = (otherPorts n).map g :=
  List.map_congr_left fun m hm => h m (ne_of_mem_otherPorts hm)

/-! ## The laws as one -/

/-- Every port keeps the link law. -/
def State.Linked (s : State) : Prop := ∀ n, (s.port n).LinkLaw

/-- From `s` to `t` every law of the device is kept. -/
structure State.Keeps (s t : State) : Prop where
  held : t.resetHeld = s.resetHeld
  link : s.Linked → t.Linked
  sleep : s.Linked → s.SleepLaw → t.SleepLaw
  governor : s.GovernorLaw → t.GovernorLaw
  quota : s.Linked → s.QuotaLaw → t.QuotaLaw
  pool : s.Linked → s.PoolLaw → t.PoolLaw
  queue : s.Linked → s.PoolLaw → s.QuotaLaw → s.QueueLaw → t.QueueLaw
  arbiter : s.Linked → s.ArbiterLaw → t.ArbiterLaw

theorem State.Keeps.refl (s : State) : s.Keeps s :=
  ⟨rfl, id, fun _ => id, id, fun _ => id, fun _ => id, fun _ _ _ => id, fun _ => id⟩

theorem State.Keeps.trans {s t u : State} (h : s.Keeps t) (k : t.Keeps u) : s.Keeps u where
  held := k.held.trans h.held
  link := k.link ∘ h.link
  sleep hl hs := k.sleep (h.link hl) (h.sleep hl hs)
  governor := k.governor ∘ h.governor
  quota hl hq := k.quota (h.link hl) (h.quota hl hq)
  pool hl hp := k.pool (h.link hl) (h.pool hl hp)
  queue hl hp hq hu := k.queue (h.link hl) (h.pool hl hp) (h.quota hl hq) (h.queue hl hp hq hu)
  arbiter hl ha := k.arbiter (h.link hl) (h.arbiter hl ha)

section
variable {s t : State}

/-- The quotas speak of the held cells and the live configurations. -/
theorem State.QuotaLaw.congr (h : s.QuotaLaw)
    (held : ∀ n, (t.port n).txq.queue.map (·.cells) = (s.port n).txq.queue.map (·.cells))
    (cfg : ∀ n, (t.port n).cfg = (s.port n).cfg) : t.QuotaLaw := by
  have lengths (n : PortId) : ((t.port n).txq.queue.map fun d => d.cells.length) =
      (s.port n).txq.queue.map fun d => d.cells.length := by
    have := congrArg (List.map List.length) (held n)
    rw [List.map_map, List.map_map] at this
    exact this
  unfold State.QuotaLaw at h ⊢
  simpa only [lengths, cfg] using h

/-- The pool law speaks of the free list, the data and the cell lists. -/
theorem State.PoolLaw.congr (h : s.PoolLaw) (free : t.pool.free = s.pool.free) (data : t.pool.data = s.pool.data)
    (held : ∀ n, (t.port n).txq.queue.map (·.cells) = (s.port n).txq.queue.map (·.cells)) : t.PoolLaw := by
  have cells (n : PortId) : ((t.port n).txq.queue.flatMap (·.cells)) = (s.port n).txq.queue.flatMap (·.cells) := by
    rw [List.flatMap_def, List.flatMap_def, held]
  unfold State.PoolLaw at h ⊢
  simpa only [free, data, cells] using h

theorem PS.holdsUnit_eq_demand (x : PS) : x.holdsUnit = x.demand.2 := by cases x <;> rfl

theorem PS.isGrantWait_eq_demand (x : PS) : x.isGrantWait = x.demand.1.isSome := by cases x <;> rfl

theorem PS.demand_eq_some_iff (x : PS) (d : JointDepth) :
    x.demand.1 = some d ↔ ∃ r, x = .grantWait r ∧ r.fromDepth = d := by
  cases x <;> simp [PS.demand]

/-- The arbiter's law but for its last clause, which a test of the grant condition brings about: the count, the entries and
their order (R68, R69, R71). -/
structure State.Entered (s : State) : Prop where
  budget : 1 ≤ s.wba.w ∧ s.wba.w ≤ 8
  count : s.wba.count = allPorts.countP fun n => (s.port n).psc.ps.holdsUnit
  nodup : (s.wba.queue.map (·.port)).Nodup
  entry : ∀ e ∈ s.wba.queue, (s.port e.port).psc.ps.demand.1 = some e.fromDepth
  waiting : ∀ n, (s.port n).psc.ps.isGrantWait = true → n ∈ s.wba.queue.map (·.port)
  order : s.wba.queue.Pairwise fun a b => b.cls = .urgent → a.cls = .urgent

theorem State.arbiterLaw_iff (s : State) :
    s.ArbiterLaw ↔ s.Entered ∧ (s.wba.w ≤ s.wba.count ∨ s.wba.queue = []) := by
  simp only [or_comm (a := s.wba.w ≤ s.wba.count)]
  constructor
  · rintro ⟨h1, h2, h3, h4, h5, h6, h7⟩
    exact ⟨⟨h1, h2, h3, fun e he => (PS.demand_eq_some_iff ..).mpr (h4 e he), h5, h6⟩, h7⟩
  · rintro ⟨⟨h1, h2, h3, h4, h5, h6⟩, h7⟩
    exact ⟨h1, h2, h3, fun e he => (PS.demand_eq_some_iff ..).mp (h4 e he), h5, h6, h7⟩

/-- The arbiter's law speaks of the arbiter and of what it sees of each port. -/
theorem State.ArbiterLaw.congr (h : s.ArbiterLaw) (wba : t.wba = s.wba)
    (demand : ∀ n, (t.port n).psc.ps.demand = (s.port n).psc.ps.demand) : t.ArbiterLaw := by
  rw [State.arbiterLaw_iff] at h ⊢
  obtain ⟨⟨h1, h2, h3, h4, h5, h6⟩, h7⟩ := h
  refine ⟨⟨?_, ?_, ?_, ?_, ?_, ?_⟩, ?_⟩ <;>
    simp only [wba, PS.holdsUnit_eq_demand, PS.isGrantWait_eq_demand, demand] at * <;> assumption

/-- Ports that keep their laws with the pool as it was. -/
theorem State.Keeps.of_still (ports : ∀ n, (s.port n).Still (t.port n))
    (arbiter : s.Linked → s.ArbiterLaw → t.ArbiterLaw) (held : t.resetHeld = s.resetHeld := by rfl)
    (free : t.pool.free = s.pool.free := by rfl) (data : t.pool.data = s.pool.data := by rfl) : s.Keeps t where
  held := held
  link h n := (ports n).link (h n)
  sleep hl h n := (ports n).sleep (hl n) (h n)
  governor h n := (ports n).governor (h n)
  quota _ h := h.congr (fun n => (ports n).cells) fun n => (ports n).cfg
  pool _ h := h.congr free data fun n => (ports n).cells
  queue hl _ _ h n := (ports n).queue (hl n) (h n)
  arbiter := arbiter

/-- Ports that keep their laws, with nothing that the pool and the arbiter see. -/
theorem State.Keeps.of_calm (ports : ∀ n, (s.port n).Calm (t.port n)) (held : t.resetHeld = s.resetHeld := by rfl)
    (free : t.pool.free = s.pool.free := by rfl) (data : t.pool.data = s.pool.data := by rfl)
    (wba : t.wba = s.wba := by rfl) : s.Keeps t :=
  .of_still (fun n => (ports n).toStill) (fun _ h => h.congr wba fun n => (ports n).demand) held free data

/-- One port changed. -/
theorem State.keeps_modPort {n : PortId} {f : Port → Port} (h : (s.port n).Calm (f (s.port n))) :
    s.Keeps (s.modPort n f) := by
  refine .of_calm fun m => ?_
  rw [State.port_modPort]
  split
  · subst_vars; exact h
  · exact .refl _

/-- One port replaced in a state that keeps the pool. -/
theorem State.keeps_modPort_still {n : PortId} {f : Port → Port} (h : (s.port n).Still (f (s.port n)))
    (arbiter : s.Linked → s.ArbiterLaw → (s.modPort n f).ArbiterLaw) : s.Keeps (s.modPort n f) := by
  refine .of_still (fun m => ?_) arbiter
  rw [State.port_modPort]
  split
  · subst_vars; exact h
  · exact .refl _

theorem State.keeps_reach (x : Nat) (s : State) : s.Keeps (s.reach x) := .of_calm fun _ => .refl _
theorem State.keeps_modDev (f : Device → Device) (s : State) : s.Keeps (s.modDev f) := .of_calm fun _ => .refl _

end

end Sys2Proof.Machine
end

section
/-! What every step keeps: the acts of the wake budget arbiter (chapter 4). -/

-- One theorem at a time: their elaboration side by side would each hold a thread and its stack.
set_option Elab.async false

namespace Sys2Proof.Machine

/-! ## The request queue -/

theorem WbaEntry.isUrgent_iff (e : WbaEntry) : e.isUrgent = true ↔ e.cls = .urgent := by simp [WbaEntry.isUrgent]

/-- An entry joins the others, wherever its class puts it (R69). -/
theorem Wba.join_perm (e : WbaEntry) (b : Wba) : (b.join e).queue.Perm (e :: b.queue) := by
  unfold Wba.join
  split
  · refine List.perm_middle.trans (.cons _ ?_)
    exact List.filter_append_perm _ _
  · exact List.perm_append_singleton _ _

/-- Every URGENT entry stands ahead of every NORMAL one. -/
abbrev Wba.Ordered (q : List WbaEntry) : Prop := q.Pairwise fun a b => b.cls = .urgent → a.cls = .urgent

/-- An entry at the tail of its class keeps the order of the classes (R69). -/
theorem Wba.join_ordered {e : WbaEntry} {b : Wba} (h : Wba.Ordered b.queue) : Wba.Ordered (b.join e).queue := by
  unfold Wba.join Wba.Ordered at *
  split
  · rename_i hcls
    simp only [List.pairwise_append, List.pairwise_cons, List.mem_filter, List.mem_cons]
    refine ⟨h.filter _, ⟨fun _ _ _ => hcls, h.filter _⟩, ?_⟩
    rintro a ⟨-, ha⟩ - - -
    exact a.isUrgent_iff.mp ha
  · rename_i hcls
    simp only [List.pairwise_append, List.pairwise_singleton, List.mem_singleton]
    refine ⟨h, trivial, ?_⟩
    rintro a - b rfl hb
    exact absurd (hb.symm.trans hcls) (by decide)

/-! ## A change at one port, as the arbiter sees it -/

section
variable {s t : State} {n : PortId}

/-- A port without an entry loses nothing by its removal. -/
theorem State.Entered.remove_eq_self (h : s.Entered) (ps : (s.port n).psc.ps.isGrantWait = false) :
    s.wba.remove n = s.wba := by
  have absent : ∀ e ∈ s.wba.queue, (e.port != n) = true := by
    intro e he
    have := h.entry e he
    rw [bne_iff_ne]
    rintro rfl
    simp [PS.isGrantWait_eq_demand, this] at ps
  rw [Wba.remove, List.filter_eq_self.mpr absent]

/-- Port n leaves the queue, if it stood in it, and takes or gives back a unit (R76, R78, R79, R80). -/
theorem State.Entered.leave (h : s.Entered) (others : ∀ m, m ≠ n → t.port m = s.port m)
    (ps : (t.port n).psc.ps.isGrantWait = false) (w : t.wba.w = s.wba.w)
    (queue : t.wba.queue = (s.wba.remove n).queue)
    (count : t.wba.count + (s.port n).psc.ps.holdsUnit.toNat = s.wba.count + (t.port n).psc.ps.holdsUnit.toNat) :
    t.Entered where
  budget := w ▸ h.budget
  count := by
    have hs := h.count
    rw [countP_ports_split n] at hs ⊢
    have same : (otherPorts n).countP (fun m => (t.port m).psc.ps.holdsUnit) =
        (otherPorts n).countP fun m => (s.port m).psc.ps.holdsUnit :=
      List.countP_congr fun m hm => by rw [others m (ne_of_mem_otherPorts hm)]
    rw [same]
    cases hb : (s.port n).psc.ps.holdsUnit <;> cases hc : (t.port n).psc.ps.holdsUnit <;> simp [hb, hc] at * <;> omega
  nodup := by
    rw [queue]
    exact h.nodup.sublist (List.filter_sublist.map _)
  entry e he := by
    rw [queue] at he
    obtain ⟨he, hne⟩ := List.mem_filter.mp he
    rw [others _ (by simpa using hne)]
    exact h.entry e he
  waiting m hm := by
    have hne : m ≠ n := by rintro rfl; simp [ps] at hm
    rw [others m hne] at hm
    obtain ⟨e, he, rfl⟩ := List.mem_map.mp (h.waiting m hm)
    rw [queue]
    exact List.mem_map.mpr ⟨e, List.mem_filter.mpr ⟨he, by simpa using hne⟩, rfl⟩
  order := by
    rw [queue]
    exact h.order.filter _

/-- Port n stands in the queue with one entry, at the tail of its class (R72, R73). -/
theorem State.Entered.join (h : s.Entered) {e : WbaEntry} (others : ∀ m, m ≠ e.port → t.port m = s.port m)
    (demand : (t.port e.port).psc.ps.demand = (some e.fromDepth, false))
    (unit : (s.port e.port).psc.ps.holdsUnit = false)
    (wba : t.wba = (s.wba.remove e.port).join e) : t.Entered := by
  have perm := Wba.join_perm e (s.wba.remove e.port)
  have fields : t.wba.w = s.wba.w ∧ t.wba.count = s.wba.count := by
    rw [wba]; unfold Wba.join; split <;> exact ⟨rfl, rfl⟩
  rw [← wba] at perm
  refine ⟨fields.1 ▸ h.budget, ?_, ?_, ?_, ?_, ?_⟩
  · rw [fields.2, h.count, countP_ports_split e.port, countP_ports_split e.port]
    congr 1
    · exact List.countP_congr fun m hm => by rw [others m (ne_of_mem_otherPorts hm)]
    · simp [unit, PS.holdsUnit_eq_demand, demand]
  · rw [(perm.map _).nodup_iff]
    simp only [List.map_cons, List.nodup_cons]
    refine ⟨fun hin => ?_, h.nodup.sublist (List.filter_sublist.map _)⟩
    obtain ⟨x, hx, hport⟩ := List.mem_map.mp hin
    have := (List.mem_filter.mp hx).2
    simp [hport] at this
  · intro x hx
    rcases List.mem_cons.mp (perm.mem_iff.mp hx) with rfl | hx
    · rw [demand]
    · obtain ⟨hx, hne⟩ := List.mem_filter.mp hx
      rw [others _ (by simpa using hne)]
      exact h.entry x hx
  · intro m hm
    rw [(perm.map _).mem_iff]
    by_cases hne : m = e.port
    · simp [hne]
    · rw [others m hne] at hm
      obtain ⟨x, hx, rfl⟩ := List.mem_map.mp (h.waiting m hm)
      exact List.mem_cons_of_mem _ (List.mem_map.mpr ⟨x, List.mem_filter.mpr ⟨hx, by simpa using hne⟩, rfl⟩)
  · rw [wba]
    exact Wba.join_ordered (h.order.filter _)

/-- One grant: the head leaves the queue for a budgeted SELF phase (R74, R75). -/
theorem State.Entered.grantEntry (h : s.Entered) {e : WbaEntry} {rest : List WbaEntry}
    (queue : s.wba.queue = e :: rest) : (s.grantEntry e rest).Entered := by
  have hentry := h.entry e (by simp [queue])
  obtain ⟨r, hr, -⟩ := (PS.demand_eq_some_iff ..).mp hentry
  have hport : (s.grantEntry e rest).port e.port = (s.port e.port).takeGrant s.now := State.port_modPort_same ..
  have hwake : ((s.port e.port).takeGrant s.now).psc.ps.demand = (none, true) := by
    rw [Port.takeGrant_of_waiting hr]; rfl
  refine h.leave (n := e.port) (fun m hm => State.port_modPort_ne _ hm _) ?_ rfl ?_ ?_
  · rw [hport, PS.isGrantWait_eq_demand, hwake]; rfl
  · have hnodup := h.nodup
    simp only [queue, List.map_cons, List.nodup_cons] at hnodup
    have absent : ∀ x ∈ rest, (x.port != e.port) = true := fun x hx => by
      rw [bne_iff_ne]; exact fun heq => hnodup.1 (heq ▸ List.mem_map_of_mem hx)
    rw [Wba.remove, queue, List.filter_cons_of_neg (by simp), List.filter_eq_self.mpr absent]
    rfl
  · rw [hport, PS.holdsUnit_eq_demand ((s.port e.port).takeGrant s.now).psc.ps, hwake, hr]; rfl

theorem Port.still_grantEntry (s : State) (e : WbaEntry) (rest : List WbaEntry) (m : PortId) :
    (s.port m).Still ((s.grantEntry e rest).port m) := by
  unfold State.grantEntry
  rw [State.port_modPort]
  split
  · subst_vars; exact Port.still_takeGrant ..
  · exact .refl _

/-- The test of the grant condition keeps the laws of every port (R75). -/
theorem Port.still_testGrant (s : State) (m : PortId) : (s.port m).Still (s.testGrant.port m) := by
  suffices h : ∀ k (s : State), (s.port m).Still ((grantLoop k s).port m) from h _ s
  intro k
  induction k with
  | zero => exact fun _ => .refl _
  | succ k ih =>
    intro s
    rw [grantLoop]
    split
    · split
      · exact .refl _
      · exact (Port.still_grantEntry ..).trans (ih _)
    · exact .refl _

/-- The test of the grant condition ends with the whole of the arbiter's law (R74). -/
theorem State.Entered.testGrant (h : s.Entered) : s.testGrant.ArbiterLaw := by
  refine (State.arbiterLaw_iff _).mpr ⟨?_, s.testGrant_grants.condition_false⟩
  suffices hloop : ∀ k (s : State), s.Entered → (grantLoop k s).Entered from hloop _ s h
  intro k
  induction k with
  | zero => exact fun _ => id
  | succ k ih =>
    intro s h
    rw [grantLoop]
    split
    · split
      · exact h
      · exact ih _ (h.grantEntry (by assumption))
    · exact h

/-- A change that leaves the arbiter's law but for its last clause, and then the test of the grant condition. -/
theorem State.keeps_testGrant (ports : ∀ m, (s.port m).Still (t.port m))
    (entered : s.Linked → s.ArbiterLaw → t.Entered) (held : t.resetHeld = s.resetHeld := by rfl)
    (free : t.pool.free = s.pool.free := by rfl) (data : t.pool.data = s.pool.data := by rfl) : s.Keeps t.testGrant :=
  .of_still (fun m => (ports m).trans (Port.still_testGrant t m)) (fun hl ha => (entered hl ha).testGrant)
    ((same_testGrant t).2.1.trans held) (by rw [testGrant_pool, free]) (by rw [testGrant_pool, data])

theorem State.ArbiterLaw.entered (h : s.ArbiterLaw) : s.Entered := ((State.arbiterLaw_iff s).mp h).1

theorem State.ArbiterLaw.condition_false (h : s.ArbiterLaw) : s.wba.w ≤ s.wba.count ∨ s.wba.queue = [] :=
  ((State.arbiterLaw_iff s).mp h).2

end

end Sys2Proof.Machine
end

section
/-! What every step keeps: how a wake cause, its absence and the phases of a wake move a port through the arbiter (R41, R43,
R51, R57, R72 to R79), and the transmitter selection. -/

-- One theorem at a time: their elaboration side by side would each hold a thread and its stack.
set_option Elab.async false

namespace Sys2Proof.Machine

/-! ## The selection (R125) -/

theorem Port.calm_setTx {p : Port} {tx : Transmitter} (up : p.LinkLaw → p.lpe.link = .up)
    (before : ∀ c, p.lpe.tx ≠ .busy .queued c) (after : ∀ c, tx ≠ .busy .queued c) : p.Calm (p.setTx tx) :=
  .of_line (fun hl hn => absurd (up hl) hn) (by simp [before, after])

theorem Port.calm_startEcho {p : Port} {seq : BitVec 4} (ps : p.psc.ps = .active) (tx : p.lpe.tx = .idle) :
    p.Calm (p.startEcho seq) := by
  have up : p.LinkLaw → p.lpe.link = .up := fun hl => hl.up_of_ps (by simp [ps])
  refine ((p.calm_emit _).trans (Port.calm_setTx (fun hl => hl.up_of_ps ?_) ?_ ?_)).trans
    (.of_adu (fun hl hn => absurd (hl.up_of_ps ?_) hn) id) <;> simp [ps, tx]

theorem Port.calm_startAdvert {p : Port} (ps : p.psc.ps = .active) (tx : p.lpe.tx = .idle) : p.Calm p.startAdvert := by
  refine ((p.calm_emit _).trans (Port.calm_setTx (fun hl => hl.up_of_ps ?_) ?_ ?_)).trans
    (.of_adu (fun hl hn => absurd (hl.up_of_ps ?_) hn) id) <;> simp [ps, tx]

theorem State.keeps_select (n : PortId) (s : State) : s.Keeps (s.select n) := by
  unfold State.select
  simp only
  split
  · rename_i h
    split
    · exact State.keeps_modPort (Port.calm_startEcho h.1 h.2)
    · split
      · exact State.keeps_modPort (Port.calm_startAdvert h.1 h.2)
      · split
        · exact State.keeps_modPort (Port.calm_startData (by assumption))
        · exact .refl s
  · exact .refl s

theorem State.keeps_settle (n : PortId) (s : State) : s.Keeps (s.settle n) :=
  (s.keeps_select n).trans (State.keeps_modPort (Port.calm_idleUpdate _ _))

/-! ## The wake cause and its absence (R41, R43, R73) -/

section
variable {s : State} {n : PortId}

theorem State.keeps_test (s : State) : s.Keeps s.testGrant :=
  State.keeps_testGrant (fun _ => .refl _) fun _ ha => ha.entered

theorem State.keeps_enterGrantWait {r : GrantWait}
    (ps : ((s.port n).psc.ps = .deep ∧ r.fromDepth = .deep) ∨ ((s.port n).psc.ps = .offerDormant ∧ r.fromDepth = .deep) ∨
      ((s.port n).psc.ps = .dormant ∧ r.fromDepth = .dormant)) : s.Keeps (s.enterGrantWait n r) := by
  have placed (u : State) : ∃ cls, u.request n r.fromDepth =
      (u.modWba (Wba.join { port := n, cls := cls, fromDepth := r.fromDepth, entryTime := u.now })).testGrant := ⟨_, rfl⟩
  unfold State.enterGrantWait
  obtain ⟨cls, hplaced⟩ := placed (s.modPort n fun p =>
    { p with psc := { p.psc with ps := .grantWait r, dormantTimer := none, offerTimer := none } })
  rw [hplaced]
  refine State.keeps_testGrant (fun m => ?_) fun _ ha => ?_
  · rw [State.port_modWba, State.port_modPort]
    split
    · subst_vars; exact Port.still_enterGrantWait ps
    · exact .refl _
  · have idle : (s.port n).psc.ps.demand = (none, false) := by rcases ps with ⟨h, -⟩ | ⟨h, -⟩ | ⟨h, -⟩ <;> rw [h] <;> rfl
    refine ha.entered.join (e := { port := n, cls := cls, fromDepth := r.fromDepth, entryTime := s.now })
      (fun m hm => ?_) ?_ ?_ ?_
    · rw [State.port_modWba, State.port_modPort_ne _ hm]
    · rw [State.port_modWba, State.port_modPort_same]; rfl
    · rw [PS.holdsUnit_eq_demand, idle]
    · rw [ha.entered.remove_eq_self (by rw [PS.isGrantWait_eq_demand, idle]; rfl)]
      rfl

theorem State.keeps_wakeCheck (n : PortId) (s : State) : s.Keeps (s.wakeCheck n) := by
  unfold State.wakeCheck
  split
  · split
    · exact State.keeps_modPort (Port.calm_beginLocal (.inl ⟨by assumption, rfl⟩))
    · exact State.keeps_modPort (Port.calm_beginLocal (.inr ⟨by assumption, rfl⟩))
    · exact State.keeps_enterGrantWait (.inl ⟨by assumption, rfl⟩)
    · exact State.keeps_enterGrantWait (.inr (.inl ⟨by assumption, rfl⟩))
    · exact State.keeps_enterGrantWait (.inr (.inr ⟨by assumption, rfl⟩))
    all_goals exact .refl s
  · exact .refl s

/-- A port that leaves the queue without a unit leaves the law of the others, and takes none back (R78). -/
theorem State.ArbiterLaw.leave {t : State} (h : s.ArbiterLaw) (others : ∀ m, m ≠ n → t.port m = s.port m)
    (demand : (t.port n).psc.ps.demand = (none, false)) (unit : (s.port n).psc.ps.holdsUnit = false)
    (wba : t.wba = s.wba.remove n) : t.ArbiterLaw := by
  have hw : t.wba.w = s.wba.w := by rw [wba]; rfl
  have hc : t.wba.count = s.wba.count := by rw [wba]; rfl
  refine (State.arbiterLaw_iff _).mpr ⟨?_, ?_⟩
  · refine h.entered.leave others ?_ hw (by rw [wba]) ?_
    · rw [PS.isGrantWait_eq_demand, demand]; rfl
    · rw [hc, unit, PS.holdsUnit_eq_demand, demand]
  · rw [hw, hc]
    refine h.condition_false.imp_right fun hq => ?_
    rw [wba, Wba.remove, hq]; rfl

theorem State.keeps_withdrawCheck (n : PortId) (s : State) : s.Keeps (s.withdrawCheck n) := by
  unfold State.withdrawCheck
  split
  · rename_i r hr
    split
    · exact .refl s
    · have unit : (s.port n).psc.ps.holdsUnit = false := by rw [hr]; rfl
      have port (m : PortId) (f : Port → Port) :
          ((s.modWba (Wba.remove n)).modPort n f).port m = if m = n then f (s.port n) else s.port m := by
        rw [State.port_modPort]; rfl
      refine .of_still (fun m => ?_) fun _ ha => ha.leave (n := n) (fun m hm => ?_) ?_ unit rfl
      · rw [port]
        split
        · subst_vars
          split
          · exact Port.still_returnDeep hr (by assumption)
          · exact Port.still_enterDormant (.inr (.inr ⟨r, hr⟩))
        · exact .refl _
      · rw [port, if_neg hm]
      · rw [port, if_pos rfl]
        split <;> rfl
  · exact .refl s

theorem State.keeps_promoteCheck (n : PortId) (s : State) : s.Keeps (s.promoteCheck n) := by
  unfold State.promoteCheck
  split
  · refine State.keeps_testGrant (fun _ => .refl _) fun _ ha => ?_
    have h := ha.entered
    cases hfind : s.wba.queue.find? (fun e => e.port == n && !e.isUrgent) with
    | none =>
      have same : s.wba.promote n = s.wba := by rw [Wba.promote, hfind]
      have : s.modWba (Wba.promote n) = s := by unfold State.modWba; rw [same]
      rw [this]; exact h
    | some e =>
      have he : e ∈ s.wba.queue := List.mem_of_find?_eq_some hfind
      have hn : e.port = n := by have := List.find?_some hfind; simp at this; exact this.1
      subst hn
      obtain ⟨r, hr, hd⟩ := (PS.demand_eq_some_iff ..).mp (h.entry e he)
      refine h.join (e := { e with cls := .urgent }) (fun m _ => rfl) ?_ ?_ ?_
      · show (s.port e.port).psc.ps.demand = _
        rw [hr, PS.demand, hd]
      · rw [hr]; rfl
      · rw [State.modWba_wba, Wba.promote, hfind]
  · exact .refl s

/-! ## Units of the budget count (R76, R79) -/

theorem State.keeps_partnerWake {d : JointDepth}
    (ps : (s.port n).psc.ps = .deep ∨ (s.port n).psc.ps = .offerDormant ∨ (s.port n).psc.ps = .dormant ∨
      ∃ r, (s.port n).psc.ps = .grantWait r) : s.Keeps (s.partnerWake n d) := by
  have unit : (s.port n).psc.ps.holdsUnit = false := by rcases ps with h | h | h | ⟨r, h⟩ <;> rw [h] <;> rfl
  have woken : ((s.port n).beginPartner s.now d).psc.ps.demand = (none, true) := by rw [Port.beginPartner_eq]; rfl
  have counted (u : State) : ∃ dev, (if u.wba.w ≤ u.wba.count then
      u.modDev fun d => { d.raise .budgetExceeded with budgetExceeded := satInc d.budgetExceeded } else u) =
      { u with dev := dev } := by split <;> exact ⟨_, rfl⟩
  unfold State.partnerWake State.partnerUnit
  simp only
  obtain ⟨dev, hdev⟩ := counted ((s.modWba (Wba.remove n)).modPort n (Port.beginPartner s.now d))
  rw [hdev]
  have port (m : PortId) : (({ (s.modWba (Wba.remove n)).modPort n (Port.beginPartner s.now d) with
      dev := dev } : State).modWba fun b => { b with count := b.count + 1 }).port m =
      if m = n then (s.port n).beginPartner s.now d else s.port m := State.port_modPort ..
  refine State.keeps_testGrant (fun m => ?_) fun _ ha => ha.entered.leave (n := n) (fun m hm => ?_) ?_ rfl rfl ?_
  · rw [port]
    split
    · subst_vars; exact Port.still_beginPartner ps
    · exact .refl _
  · rw [port, if_neg hm]
  · rw [port, if_pos rfl, PS.isGrantWait_eq_demand, woken]; rfl
  · rw [port, if_pos rfl, PS.holdsUnit_eq_demand ((s.port n).beginPartner s.now d).psc.ps, woken, unit]; rfl

/-- Replacing two different ports, in either order. -/
theorem State.setPort_comm {n m : PortId} (h : m ≠ n) (p q : Port) (s : State) :
    (s.setPort n p).setPort m q = (s.setPort m q).setPort n p := by
  have : ((s.setPort n p).setPort m q).ports = ((s.setPort m q).setPort n p).ports := by
    apply State.ports_ext
    intro i
    by_cases hn : i = n <;> by_cases hm : i = m <;> simp_all
  simpa [State.setPort] using this

/-- A test of the grant condition sees nothing of a change at a port that is not in GRANT-WAIT (R75). -/
theorem State.testGrant_setPort {q : Port} (before : (s.port n).psc.ps.isGrantWait = false)
    (after : q.psc.ps.isGrantWait = false) : (s.setPort n q).testGrant = s.testGrant.setPort n q := by
  suffices h : ∀ k (s : State), (s.port n).psc.ps.isGrantWait = false →
      grantLoop k (s.setPort n q) = (grantLoop k s).setPort n q from h _ s before
  intro k
  induction k with
  | zero => exact fun _ _ => rfl
  | succ k ih =>
    intro s before
    rw [grantLoop, grantLoop, State.setPort_wba]
    split
    · split
      · rfl
      · rename_i e rest _
        have one : (s.setPort n q).grantEntry e rest = (s.grantEntry e rest).setPort n q := by
          have comm (f : Wba → Wba) : (s.setPort n q).modWba f = (s.modWba f).setPort n q := rfl
          unfold State.grantEntry State.modPort
          rw [comm, State.setPort_now]
          by_cases hn : e.port = n
          · subst hn
            rw [State.port_setPort_same, Port.takeGrant_of_not_waiting after, State.setPort_setPort,
              State.setPort_setPort]
          · rw [State.port_setPort_ne _ hn, State.setPort_comm hn]
        have still : ((s.grantEntry e rest).port n).psc.ps.isGrantWait = false := by
          unfold State.grantEntry
          rw [State.port_modPort]
          split
          · subst_vars
            rwa [State.port_modWba, Port.takeGrant_of_not_waiting before]
          · exact before
        rw [one, ih _ still]
    · rfl

end

end Sys2Proof.Machine
end

section
/-! What every step keeps: the control words received and the timers of the power state and of a wake. -/

-- One theorem at a time: their elaboration side by side would each hold a thread and its stack.
set_option Elab.async false

namespace Sys2Proof.Machine

section
variable {s : State} {n : PortId}

/-! ## The end of a phase (R51, R53, R60, R79) -/

/-- A unit that a SELF phase holds is released, and the phase ends (R79). -/
theorem State.keeps_endSelf {w : WakeRecord} {f : Port → Port} (ps : (s.port n).psc.ps = .waking w)
    (still : (s.port n).Still (f (s.port n))) (after : (f (s.port n)).psc.ps.demand = (none, false)) :
    s.Keeps ((if (s.port n).psc.ps.holdsUnit then s.releaseUnit else s).modPort n f) := by
  have idle : (s.port n).psc.ps.isGrantWait = false := by rw [ps]; rfl
  have idle' : (f (s.port n)).psc.ps.isGrantWait = false := by rw [PS.isGrantWait_eq_demand, after]; rfl
  split
  · rename_i unit
    have released : s.releaseUnit.modPort n f =
        ((s.modWba fun b => { b with count := b.count - 1 }).setPort n (f (s.port n))).testGrant := by
      have later := State.testGrant_setPort (s := s.modWba fun b => { b with count := b.count - 1 }) idle idle'
      have seen := testGrant_port (s.modWba fun b => { b with count := b.count - 1 }) n idle
      rw [later, State.modPort, State.releaseUnit, seen]
      rfl
    rw [released]
    have port (m : PortId) : ((s.modWba fun b => { b with count := b.count - 1 }).setPort n (f (s.port n))).port m =
        if m = n then f (s.port n) else s.port m := State.port_modPort ..
    refine State.keeps_testGrant (fun m => ?_) fun _ ha => ?_
    · rw [port]
      split
      · subst_vars; exact still
      · exact .refl _
    · have h := ha.entered
      refine h.leave (n := n) (fun m hm => by rw [port, if_neg hm]) (by rw [port, if_pos rfl]; exact idle') rfl ?_ ?_
      · rw [h.remove_eq_self idle]; rfl
      · have pos : 0 < s.wba.count := by
          rw [h.count]
          exact List.countP_pos_iff.mpr ⟨n, mem_allPorts n, unit⟩
        rw [port, if_pos rfl, PS.holdsUnit_eq_demand (f (s.port n)).psc.ps, after, unit]
        show s.wba.count - 1 + 1 = s.wba.count + 0
        omega
  · rename_i unit
    refine State.keeps_modPort_still still fun _ ha => ?_
    have hunit : (s.port n).psc.ps.holdsUnit = false := by simpa using unit
    refine ha.leave (n := n) (fun m hm => State.port_modPort_ne _ hm _) ?_ hunit ?_
    · rw [State.port_modPort_same]; exact after
    · rw [ha.entered.remove_eq_self idle]; rfl

theorem Port.still_say_wakeEnd {p : Port} {w : WakeRecord} (ps : p.psc.ps = .waking w) : p.Still (p.say .rdy).wakeEnd :=
  (p.calm_say _).toStill.trans (Port.still_wakeEnd (by rw [Port.say_psc]; exact ps))

/-- A wake in its phase PARTNER holds no unit and waits for none. -/
theorem Port.demand_beginPartnerPhase {x : Nat} {w : WakeRecord} {p : Port} :
    (p.beginPartnerPhase x w).psc.ps.demand = (none, false) := by
  simp [Port.beginPartnerPhase, PS.demand, PS.holdsUnit]

theorem PS.demand_of_partnerPhase {w : WakeRecord} (h : w.phase = .partner) :
    (PS.waking w).demand = (none, false) := by
  simp [PS.demand, PS.holdsUnit, h]

theorem State.keeps_selfExpiry (n : PortId) (s : State) : s.Keeps (s.selfExpiry n) := by
  unfold State.selfExpiry
  cases hps : (s.port n).psc.ps with
  | waking w =>
    rw [← hps]
    have hwake : (s.port n).psc.ps.wake = some w := by rw [hps]; rfl
    rw [hwake]
    simp only
    unfold State.selfEnd State.endWakeRdy State.endWake
    cases origin : w.origin with
    | partner =>
      simp only [State.modPort_modPort]
      exact (State.keeps_endSelf hps (Port.still_say_wakeEnd hps) rfl).trans (State.keeps_settle ..)
    | localEnd =>
      simp only
      by_cases dim : w.selfDepth = .dim
      · have awake := Port.calm_wakeReceiver hps dim
        have hps' : (s.port n).wakeReceiver.psc.ps = .waking w := hps
        simp only [if_pos dim, State.modPort_modPort]
        split
        · exact (State.keeps_endSelf hps (awake.toStill.trans (Port.still_say_wakeEnd hps')) rfl).trans
            (State.keeps_settle ..)
        · refine State.keeps_endSelf hps (awake.toStill.trans ((Port.calm_say .alr _).toStill.trans ?_)) ?_
          exact Port.still_beginPartnerPhase (by rw [Port.say_psc]; exact hps') origin
          exact Port.demand_beginPartnerPhase
      · simp only [if_neg dim, State.modPort_modPort]
        split
        · exact (State.keeps_endSelf hps (Port.still_say_wakeEnd hps) rfl).trans (State.keeps_settle ..)
        · refine State.keeps_endSelf hps ((Port.calm_say .alr _).toStill.trans ?_) ?_
          exact Port.still_beginPartnerPhase (by rw [Port.say_psc]; exact hps) origin
          exact Port.demand_beginPartnerPhase
  | _ => exact .refl s

/-- A wake in its phase PARTNER ends (R60). -/
theorem State.keeps_endWake {w : WakeRecord} (ps : (s.port n).psc.ps = .waking w) (phase : w.phase = .partner) :
    s.Keeps (s.endWake n) :=
  (State.keeps_modPort ⟨Port.still_wakeEnd ps, by rw [ps, PS.demand_of_partnerPhase phase]; rfl⟩).trans
    (State.keeps_settle ..)

theorem PS.eq_waking_of_partnerPhase {x : PS} {w : WakeRecord} (h : x.partnerPhase = some w) :
    x = .waking w ∧ w.phase = .partner := by
  unfold PS.partnerPhase at h
  split at h
  · split at h
    · cases h; exact ⟨rfl, by assumption⟩
    · cases h
  · cases h

theorem State.keeps_waitExpiry (n : PortId) (s : State) : s.Keeps (s.waitExpiry n) := by
  unfold State.waitExpiry
  split
  · rename_i w h
    obtain ⟨ps, phase⟩ := PS.eq_waking_of_partnerPhase h
    have stopped : s.Keeps (s.modPort n (Port.setPs (.waking { w with waitTimer := none }))) :=
      State.keeps_modPort (Port.calm_setWake ps rfl rfl rfl rfl rfl rfl (.inr phase))
    simp only
    split
    · exact stopped.trans (State.keeps_endWake (w := { w with waitTimer := none }) (by simp) phase)
    · exact stopped
  · exact .refl s

/-! ## Control words -/

theorem State.keeps_hearRdy (n : PortId) (s : State) : s.Keeps (s.hearRdy n) := by
  unfold State.hearRdy
  simp only
  split
  · split
    · rename_i w h
      obtain ⟨ps, phase⟩ := PS.eq_waking_of_partnerPhase h
      unfold State.takeRdy
      split
      · have seen : s.Keeps (s.modPort n (Port.setPs (.waking { w with readySeen := true }))) :=
          State.keeps_modPort (Port.calm_setWake ps rfl rfl rfl rfl rfl rfl (.inr phase))
        simp only
        split
        · exact seen.trans (State.keeps_endWake (w := { w with readySeen := true }) (by simp) phase)
        · exact seen
      · exact .refl s
    · exact .refl s
  · exact .refl s

theorem State.keeps_alrWhileWaking {w : WakeRecord} (ps : (s.port n).psc.ps = .waking w) :
    s.Keeps (s.alrWhileWaking n w) := by
  unfold State.alrWhileWaking
  split
  · exact .refl s
  · split
    · exact State.keeps_modPort (Port.calm_setWake ps rfl rfl rfl rfl rfl rfl (.inl ⟨rfl, rfl⟩))
    · refine (State.keeps_modPort (Port.calm_say ..)).trans (State.keeps_endWake (w := w) ?_ (by assumption))
      rw [State.port_modPort_same, Port.say_psc, ps]

theorem State.keeps_hearAlr (n : PortId) (s : State) : s.Keeps (s.hearAlr n) := by
  unfold State.hearAlr State.takeAlr
  split
  · rename_i h
    refine (State.keeps_modPort (Port.calm_setOffer_none (s.port n))).trans ?_
    have up : ((s.modPort n (Port.setOffer none)).port n).lpe.link = .up := by
      rw [State.port_modPort_same]; exact h.1
    simp only
    generalize s.modPort n (Port.setOffer none) = u at up
    split
    · exact State.keeps_modPort (Port.calm_answerAlr up)
    · exact State.keeps_modPort (Port.calm_answerAlr up)
    · exact State.keeps_modPort (Port.calm_answerAlr up)
    · exact State.keeps_alrWhileWaking (by assumption)
    · exact State.keeps_partnerWake (.inl (by assumption))
    · exact State.keeps_partnerWake (.inr (.inl (by assumption)))
    · exact State.keeps_partnerWake (.inr (.inr (.inl (by assumption))))
    · exact State.keeps_partnerWake (.inr (.inr (.inr ⟨_, by assumption⟩)))
    · exact .refl u
  · exact .refl s

/-- A depth that needs the partner is eligible only with PA valid (R21). -/
theorem Port.valid_of_eligible {p : Port} {d : SleepDepth} (h : p.eligible d = true) (joint : d.isJoint = true) :
    p.adu.pa.valid = true := by
  simp only [Port.eligible, joint, Bool.and_eq_true, Bool.or_eq_true, Bool.not_true, Bool.false_eq_true, false_or] at h
  exact h.1.2.1.2

theorem State.keeps_enterDeep
    (ps : ((s.port n).psc.ps = .dim ∧ (s.port n).adu.pa.valid = true) ∨ (s.port n).psc.ps = .offerDeep) :
    s.Keeps (s.enterDeep n) :=
  (State.keeps_modPort (Port.calm_enterDeep ps)).trans (State.keeps_wakeCheck ..)

theorem State.keeps_enterDormant (ps : (s.port n).psc.ps = .deep ∨ (s.port n).psc.ps = .offerDormant) :
    s.Keeps (s.enterDormant n) :=
  (State.keeps_modPort (Port.calm_enterDormant ps)).trans (State.keeps_wakeCheck ..)

theorem State.keeps_hearOfd (n : PortId) (s : State) : s.Keeps (s.hearOfd n) := by
  unfold State.hearOfd
  simp only
  split
  · rename_i h
    split
    · exact State.keeps_modPort (Port.calm_recordOffer h.1)
    · rename_i ps
      split
      · rename_i eligible
        have valid := Port.valid_of_eligible eligible rfl
        exact (State.keeps_modPort (Port.calm_say ..)).trans (State.keeps_enterDeep (.inl (by simp [ps, valid])))
      · exact State.keeps_modPort (Port.calm_recordOffer h.1)
    · exact State.keeps_enterDeep (.inr (by assumption))
    all_goals exact .refl s
  · exact .refl s

theorem State.keeps_hearOfm (n : PortId) (s : State) : s.Keeps (s.hearOfm n) := by
  unfold State.hearOfm
  simp only
  split
  · rename_i up
    split
    · exact State.keeps_modPort (Port.calm_unannounced up (by assumption))
    · unfold State.takeOfm
      split
      · rename_i ps
        split
        · exact (State.keeps_modPort (Port.calm_say ..)).trans (State.keeps_enterDormant (.inl (by simp [ps])))
        · exact State.keeps_modPort (Port.calm_recordOffer up)
      · exact State.keeps_enterDormant (.inr (by assumption))
      · split
        · exact State.keeps_modPort (Port.calm_recordOffer up)
        · exact .refl s
      all_goals exact .refl s
    all_goals exact .refl s
  · exact .refl s

/-! ## The timers of the power state -/

theorem State.keeps_idleExpiry (n : PortId) (s : State) : s.Keeps (s.idleExpiry n) := by
  unfold State.idleExpiry
  have stopped : s.Keeps (s.modPort n fun p => { p with psc := { p.psc with idleTimer := none } }) :=
    State.keeps_modPort (Port.calm_stopIdle _)
  have idle : ((s.modPort n fun p => { p with psc := { p.psc with idleTimer := none } }).port n).psc.idleTimer = none := by
    simp
  refine stopped.trans ?_
  simp only
  generalize (s.modPort n fun p => { p with psc := { p.psc with idleTimer := none } }) = u at idle
  split
  · rename_i ps
    split
    · refine .trans (State.keeps_modPort (f := fun p => (p.setPs .dim).startDeepTimer u.now)
        (Port.calm_fallDim ps idle)) ?_
      split
      · rename_i h
        rw [Bool.and_eq_true] at h
        have valid := Port.valid_of_eligible h.2 rfl
        refine (State.keeps_modPort (Port.calm_say ..)).trans (State.keeps_enterDeep (.inl ⟨?_, ?_⟩))
        · simp [Port.startDeepTimer]
        · simpa [Port.startDeepTimer] using valid
      · exact State.keeps_wakeCheck ..
    · exact State.keeps_modPort (Port.calm_startIdle ps _)
  · exact .refl u

theorem State.keeps_deepExpiry (n : PortId) (s : State) : s.Keeps (s.deepExpiry n) := by
  unfold State.deepExpiry
  simp only [State.port_modPort_same]
  split
  · rename_i ps
    split
    · rename_i eligible
      have valid := Port.valid_of_eligible eligible rfl
      rw [State.modPort_modPort]
      refine .trans (State.keeps_modPort ?_) (State.keeps_wakeCheck ..)
      refine (Port.calm_say .ofd _).trans ?_
      have offered := Port.calm_offerDeep (p := (s.port n).say .ofd) (x := s.now + (s.port n).cfg.offerTimeout.toNat)
        (by rw [Port.say_psc]; exact ps) (by rw [Port.say_adu]; exact valid)
      simpa [Port.say_eq, Port.startOfferTimer, Port.setPs, after] using offered
    · rw [State.modPort_modPort]
      exact State.keeps_modPort (Port.calm_restartDeep ps)
  · rename_i ps
    exact State.keeps_modPort (Port.calm_stopDeep ps)

theorem State.keeps_offerExpiry (n : PortId) (s : State) : s.Keeps (s.offerExpiry n) := by
  unfold State.offerExpiry
  simp only [State.port_modPort_same]
  split
  · rename_i ps
    rw [State.modPort_modPort]
    exact .trans (State.keeps_modPort ((Port.calm_offerBack ps).trans (Port.calm_offerTimedOut ..)))
      (State.keeps_wakeCheck ..)
  · rename_i ps
    rw [State.modPort_modPort]
    exact .trans (State.keeps_modPort ((Port.calm_offerReturn ps).trans (Port.calm_offerTimedOut ..)))
      (State.keeps_wakeCheck ..)
  · rename_i hdeep hdormant
    exact State.keeps_modPort (Port.calm_stopOffer hdeep hdormant)

theorem State.keeps_dormantExpiry (n : PortId) (s : State) : s.Keeps (s.dormantExpiry n) := by
  unfold State.dormantExpiry
  simp only [State.port_modPort_same]
  split
  · rename_i ps
    split
    · rw [State.modPort_modPort]
      split
      · have stopped (p : Port) : (({ p with psc := { p.psc with dormantTimer := none } } : Port).say .ofm).enterDormant =
            (p.say .ofm).enterDormant := by simp [Port.say_eq, Port.enterDormant, Psc.stopTimers]
        unfold State.enterDormant
        simp only [State.modPort_modPort, stopped]
        exact .trans (State.keeps_modPort ((Port.calm_say ..).trans
          (Port.calm_enterDormant (.inl (by rw [Port.say_psc]; exact ps))))) (State.keeps_wakeCheck ..)
      · simp only [State.modPort_modPort]
        refine .trans (State.keeps_modPort ?_) (State.keeps_wakeCheck ..)
        refine (Port.calm_say .ofm _).trans ?_
        have offered := Port.calm_offerDormant (p := (s.port n).say .ofm)
          (x := s.now + (s.port n).cfg.offerTimeout.toNat) (by rw [Port.say_psc]; exact ps)
        simpa [Port.say_eq, Port.startOfferTimer, Port.setPs, after] using offered
    · rw [State.modPort_modPort]
      exact State.keeps_modPort (Port.calm_restartDormant ps)
  · rename_i ps
    exact State.keeps_modPort (Port.calm_stopDormant ps)

end

end Sys2Proof.Machine
end

section
/-! What every step keeps: the removal of a descriptor and what follows it (R43, R117, R126, R130, R133), with the cells it
gives back to the free list (R100). -/

-- One theorem at a time: their elaboration side by side would each hold a thread and its stack.
set_option Elab.async false

namespace Sys2Proof.Machine

/-! ## What PSC n, the arbiter and the selection leave alone -/

/-- From `p` to `q` neither the command slot nor the frame in progress changes. -/
structure Port.Apart (p q : Port) : Prop where
  slot : q.slot = p.slot
  ingress : q.ssp.ingress = p.ssp.ingress

theorem Port.Apart.refl (p : Port) : p.Apart p := ⟨rfl, rfl⟩

theorem Port.Apart.trans {p q r : Port} (h : p.Apart q) (k : q.Apart r) : p.Apart r :=
  ⟨k.slot.trans h.slot, k.ingress.trans h.ingress⟩

section
variable {s : State} {n : PortId}

theorem State.apart_modPort {f : Port → Port} (h : (s.port n).Apart (f (s.port n))) (m : PortId) :
    (s.port m).Apart ((s.modPort n f).port m) := by
  rw [State.port_modPort]
  split
  · subst_vars; exact h
  · exact .refl _

theorem Port.apart_takeGrant (now : Nat) (p : Port) : p.Apart (p.takeGrant now) := by
  unfold Port.takeGrant
  split <;> exact ⟨rfl, rfl⟩

theorem State.apart_testGrant (s : State) (m : PortId) : (s.port m).Apart (s.testGrant.port m) := by
  suffices h : ∀ k (s : State), (s.port m).Apart ((grantLoop k s).port m) from h _ s
  intro k
  induction k with
  | zero => exact fun _ => .refl _
  | succ k ih =>
    intro s
    rw [grantLoop]
    split
    · split
      · exact .refl _
      · rename_i e rest _
        exact (State.apart_modPort (s := s.modWba _) (Port.apart_takeGrant s.now _) m).trans (ih (s.grantEntry e rest))
    · exact .refl _

theorem State.apart_wakeCheck (n : PortId) (s : State) (m : PortId) : (s.port m).Apart ((s.wakeCheck n).port m) := by
  have waits (r : GrantWait) : (s.port m).Apart ((s.enterGrantWait n r).port m) := by
    unfold State.enterGrantWait State.request
    refine .trans ?_ (State.apart_testGrant _ m)
    have waiting := State.apart_modPort (s := s) (n := n) (f := fun p =>
      { p with psc := { p.psc with ps := .grantWait r, dormantTimer := none, offerTimer := none } }) ⟨rfl, rfl⟩ m
    exact waiting
  unfold State.wakeCheck
  split
  · split
    · exact State.apart_modPort ⟨rfl, rfl⟩ m
    · exact State.apart_modPort ⟨rfl, rfl⟩ m
    · exact waits _
    · exact waits _
    · exact waits _
    all_goals exact .refl _
  · exact .refl _

theorem State.apart_promoteCheck (n : PortId) (s : State) (m : PortId) :
    (s.port m).Apart ((s.promoteCheck n).port m) := by
  unfold State.promoteCheck
  split
  · exact State.apart_testGrant (State.modWba _ _) m
  · exact .refl _

theorem State.apart_withdrawCheck (n : PortId) (s : State) (m : PortId) :
    (s.port m).Apart ((s.withdrawCheck n).port m) := by
  unfold State.withdrawCheck
  split
  · split
    · exact .refl _
    · exact State.apart_modPort (s := s.modWba _) (by split <;> exact ⟨rfl, rfl⟩) m
  · exact .refl _

theorem Port.apart_idleUpdate (now : Nat) (p : Port) : p.Apart (p.idleUpdate now) := by
  unfold Port.idleUpdate
  split
  · split <;> exact ⟨rfl, rfl⟩
  · exact ⟨rfl, rfl⟩

theorem Port.apart_startData (now : Nat) (bytes : List Byte) (p : Port) : p.Apart (p.startData now bytes) := by
  cases hq : p.txq.queue with
  | nil => unfold Port.startData; rw [hq]; exact .refl p
  | cons d rest => rw [Port.startData_eq hq]; exact ⟨rfl, rfl⟩

theorem State.apart_settle (n : PortId) (s : State) (m : PortId) : (s.port m).Apart ((s.settle n).port m) := by
  refine .trans ?_ (State.apart_modPort (Port.apart_idleUpdate ..) m)
  unfold State.select
  simp only
  split
  · split
    · exact State.apart_modPort ⟨rfl, rfl⟩ m
    · split
      · exact State.apart_modPort ⟨rfl, rfl⟩ m
      · split
        · exact State.apart_modPort (Port.apart_startData ..) m
        · exact .refl _
  · exact .refl _

theorem State.apart_newHead (n : PortId) (s : State) (m : PortId) : (s.port m).Apart ((s.newHead n).port m) := by
  unfold State.newHead
  simp only
  split
  · exact State.apart_modPort ⟨rfl, rfl⟩ m
  · split
    · exact .trans (State.apart_modPort ⟨rfl, rfl⟩ m) (State.apart_promoteCheck ..)
    · exact State.apart_modPort ⟨rfl, rfl⟩ m

theorem State.apart_afterRemoval (n : PortId) (s : State) (m : PortId) :
    (s.port m).Apart ((s.afterRemoval n).port m) :=
  (s.apart_withdrawCheck n m).trans (State.apart_settle ..)

theorem State.apart_afterPending (n : PortId) (s : State) (m : PortId) :
    (s.port m).Apart ((s.afterPending n).port m) :=
  (s.apart_wakeCheck n m).trans (State.apart_settle ..)

end

/-! ## Cells that a port gives back (R100) -/

theorem Port.heldCells_eq (p : Port) : p.heldCells = p.cells.length := by
  rw [Port.heldCells, Port.cells, List.length_flatMap]

section
variable {s t : State} {n : PortId}

/-- What is listed over the ports is what port n and what the others list. -/
theorem flatMap_ports_perm {α : Type} (n : PortId) (f : PortId → List α) :
    (allPorts.flatMap f).Perm (f n ++ (otherPorts n).flatMap f) :=
  (allPorts_perm n).flatMap_right f

theorem flatMap_otherPorts_congr {α : Type} {f g : PortId → List α} (h : ∀ m, m ≠ n → f m = g m) :
    (otherPorts n).flatMap f = (otherPorts n).flatMap g := by
  rw [List.flatMap_def, List.flatMap_def, map_otherPorts_congr h]

/-- Cells that move between the free list and the queue of one port leave the pool law (R99). -/
theorem State.PoolLaw.exchange (h : s.PoolLaw) (others : ∀ m, m ≠ n → (t.port m).cells = (s.port m).cells)
    (data : t.pool.data = s.pool.data) (cells : (t.pool.free ++ (t.port n).cells).Perm (s.pool.free ++ (s.port n).cells)) :
    t.PoolLaw := by
  refine ⟨data ▸ h.1, .trans ?_ h.2⟩
  have rest : ((otherPorts n).flatMap fun m => (t.port m).cells) = (otherPorts n).flatMap fun m => (s.port m).cells :=
    flatMap_otherPorts_congr others
  calc (t.pool.free ++ allPorts.flatMap fun m => (t.port m).cells).Perm
        (t.pool.free ++ ((t.port n).cells ++ (otherPorts n).flatMap fun m => (t.port m).cells)) :=
      (flatMap_ports_perm n _).append_left _
    _ = ((t.pool.free ++ (t.port n).cells) ++ (otherPorts n).flatMap fun m => (s.port m).cells) := by
      rw [rest, List.append_assoc]
    List.Perm _ ((s.pool.free ++ (s.port n).cells) ++ (otherPorts n).flatMap fun m => (s.port m).cells) :=
      cells.append_right _
    _ = (s.pool.free ++ ((s.port n).cells ++ (otherPorts n).flatMap fun m => (s.port m).cells)) :=
      List.append_assoc ..
    List.Perm _ (s.pool.free ++ allPorts.flatMap fun m => (s.port m).cells) :=
      (flatMap_ports_perm n fun m => (s.port m).cells).symm.append_left _

/-- The quotas in the words of the model's own operations (R101). -/
theorem State.quotaLaw_iff (s : State) :
    s.QuotaLaw ↔ (∀ m, (s.port m).heldCells ≤ (s.port m).cfg.cap.toNat) ∧ s.sharedInUse + s.sumReserves ≤ 4096 :=
  Iff.rfl

/-- Ports that hold no more cells than before, with the same quotas, leave the quotas of the pool (R101). -/
theorem State.QuotaLaw.release (h : s.QuotaLaw) (cfg : ∀ m, (t.port m).cfg = (s.port m).cfg)
    (held : ∀ m, (t.port m).heldCells ≤ (s.port m).heldCells) : t.QuotaLaw := by
  rw [State.quotaLaw_iff] at h ⊢
  obtain ⟨hcap, hsum⟩ := h
  refine ⟨fun m => (held m).trans (cfg m ▸ hcap m), le_trans ?_ hsum⟩
  refine Nat.add_le_add ?_ (le_of_eq ?_)
  · refine List.sum_le_sum (l := allPorts) (f := fun m => (t.port m).shared) (g := fun m => (s.port m).shared) fun m _ => ?_
    rw [Port.shared, Port.shared, cfg]
    exact Nat.sub_le_sub_right (held m) _
  · unfold State.sumReserves State.sumPorts
    simp only [cfg]

theorem Port.Still.cells_eq {p q : Port} (h : p.Still q) : q.cells = p.cells := by
  rw [Port.cells, Port.cells, List.flatMap_def, List.flatMap_def, h.cells]

theorem Port.Still.heldCells_eq {p q : Port} (h : p.Still q) : q.heldCells = p.heldCells := by
  rw [Port.heldCells_eq, Port.heldCells_eq, h.cells_eq]

/-- What holds at port n and at every other port holds at each. -/
theorem forall_port {P : PortId → Prop} (n : PortId) (here : P n) (others : ∀ m, m ≠ n → P m) (m : PortId) : P m := by
  by_cases hm : m = n
  · exact hm ▸ here
  · exact others m hm

/-- A port that gives cells back to the free list, with the laws of every port kept. -/
theorem State.Keeps.of_exchange {freed : List CellNo} (others : ∀ m, m ≠ n → (s.port m).Still (t.port m))
    (port : (s.port n).Keeps (t.port n)) (quota : s.Linked → s.QuotaLaw → t.QuotaLaw)
    (cells : s.Linked → (freed ++ (t.port n).cells).Perm (s.port n).cells)
    (arbiter : s.Linked → s.ArbiterLaw → t.ArbiterLaw)
    (free : t.pool.free = s.pool.free ++ freed := by rfl) (data : t.pool.data = s.pool.data := by rfl)
    (held : t.resetHeld = s.resetHeld := by rfl) : s.Keeps t where
  held := held
  link h := forall_port n (port.link (h n)) fun m hm => (others m hm).link (h m)
  sleep hl h := forall_port n (port.sleep (hl n) (h n)) fun m hm => (others m hm).sleep (hl m) (h m)
  governor h := forall_port n (port.governor (h n)) fun m hm => (others m hm).governor (h m)
  quota := quota
  pool hl h := h.exchange (fun m hm => (others m hm).cells_eq) data (by
    rw [free, List.append_assoc]; exact (cells hl).append_left _)
  queue hl _ _ h := forall_port n (port.queue (hl n) (h n)) fun m hm => (others m hm).queue (hl m) (h m)
  arbiter := arbiter

/-- A port that gives cells back to the free list, with its laws kept and nothing that the arbiter sees. -/
theorem State.Keeps.of_release {freed : List CellNo} (others : ∀ m, m ≠ n → t.port m = s.port m)
    (port : (s.port n).Keeps (t.port n)) (cfg : (t.port n).cfg = (s.port n).cfg)
    (demand : (t.port n).psc.ps.demand = (s.port n).psc.ps.demand)
    (cells : (freed ++ (t.port n).cells).Perm (s.port n).cells)
    (free : t.pool.free = s.pool.free ++ freed := by rfl) (data : t.pool.data = s.pool.data := by rfl)
    (wba : t.wba = s.wba := by rfl) (held : t.resetHeld = s.resetHeld := by rfl) : s.Keeps t := by
  refine .of_exchange (fun m hm => others m hm ▸ .refl _) port (fun _ h => h.release ?_ ?_) (fun _ => cells)
    (fun _ h => h.congr wba ?_) free data held
  · exact forall_port n cfg fun m hm => by rw [others m hm]
  · refine forall_port n ?_ fun m hm => by rw [others m hm]
    have := cells.length_eq
    rw [Port.heldCells_eq, Port.heldCells_eq]
    simp only [List.length_append] at this
    omega
  · exact forall_port n demand fun m hm => by rw [others m hm]

end

/-! ## Removal (R117) -/

section
variable {s : State} {n : PortId}

theorem State.keeps_newHead (n : PortId) (s : State) : s.Keeps (s.newHead n) := by
  have set (u : Option Nat) (h : (s.port n).txq.queue = [] → u = none) :
      s.Keeps (s.modPort n fun p =>
        { p with txq := { p.txq with releaseWatch := p.newReleaseWatch s.now, urgencyWatch := u } }) :=
    State.keeps_modPort (Port.calm_setWatches fun hq => ⟨by simp [Port.newReleaseWatch, hq], h hq⟩)
  have watched (x : Nat) (h : (s.port n).newUrgencyWatch = some x) : (s.port n).txq.queue ≠ [] := fun hq => by
    simp [Port.newUrgencyWatch, hq] at h
  unfold State.newHead
  simp only
  split
  · exact set none fun _ => rfl
  · split
    · exact (set none fun _ => rfl).trans (State.keeps_promoteCheck ..)
    · exact set _ fun hq => absurd hq (watched _ (by assumption))

/-- The cells of a queue with one descriptor taken out, and its own, are the cells that it had. -/
theorem flatMap_eraseIdx_perm {l : List Descriptor} {i : Nat} {d : Descriptor} (h : l[i]? = some d) :
    (d.cells ++ (l.eraseIdx i).flatMap (·.cells)).Perm (l.flatMap (·.cells)) := by
  obtain ⟨before, after, split, -, erased⟩ := exists_split_of_getElem? h
  rw [split] at erased ⊢
  rw [erased]
  simp only [List.flatMap_append, List.flatMap_cons]
  exact List.perm_append_comm_assoc ..

theorem State.keeps_removeAt {i : Nat} {c : Counter}
    (state : ∀ d, (s.port n).txq.queue[i]? = some d → (s.port n).QueueLaw → d.state ≠ .transmitting) :
    s.Keeps (s.removeAt n i c) := by
  unfold State.removeAt
  split
  · exact .refl s
  · rename_i d hd
    have taken : s.Keeps ((s.modPort n (Port.takeOut i d c)).modPool (Pool.freeCells d.cells)) := by
      refine .of_release (n := n) (freed := d.cells) (fun m hm => by simp [hm]) ?_ ?_ ?_ ?_ <;>
        rw [State.port_modPool, State.port_modPort_same]
      · exact Port.keeps_takeOut hd (state d hd)
      · rw [Port.takeOut_eq]
      · rw [Port.takeOut_eq]
      · rw [Port.takeOut_eq]
        exact flatMap_eraseIdx_perm hd
    simp only
    split
    · exact taken.trans (State.keeps_newHead ..)
    · exact taken

theorem State.keeps_afterRemoval (n : PortId) (s : State) : s.Keeps (s.afterRemoval n) :=
  (s.keeps_withdrawCheck n).trans (State.keeps_settle ..)

theorem State.keeps_afterPending (n : PortId) (s : State) : s.Keeps (s.afterPending n) :=
  (s.keeps_wakeCheck n).trans (State.keeps_settle ..)

/-- The descriptor at the place of the first with a property has the property. -/
theorem of_findIdx?_getElem? {l : List Descriptor} {Q : Descriptor → Bool} {i : Nat} {d : Descriptor}
    (idx : l.findIdx? Q = some i) (at_ : l[i]? = some d) : Q d = true := by
  obtain ⟨hi, hQ, -⟩ := List.findIdx?_eq_some_iff_getElem.mp idx
  rw [List.getElem?_eq_getElem hi] at at_
  exact Option.some.inj at_ ▸ hQ

theorem State.keeps_abortFilling (n : PortId) (s : State) : s.Keeps (s.abortFilling n) := by
  unfold State.abortFilling
  split
  · rename_i i idx
    refine (State.keeps_removeAt fun d hd _ => ?_).trans (State.keeps_afterRemoval ..)
    have := of_findIdx?_getElem? idx hd
    simp only [beq_iff_eq] at this
    rw [this]; decide
  · exact .refl s

theorem State.keeps_agingLoop (n : PortId) (k : Nat) (s : State) : s.Keeps (agingLoop n k s) := by
  induction k generalizing s with
  | zero => exact .refl s
  | succ k ih =>
    rw [agingLoop]
    split
    · rename_i x i _ idx
      split
      · refine .trans (.trans (State.keeps_removeAt fun d hd _ => ?_) (State.keeps_afterRemoval ..)) (ih _)
        have := of_findIdx?_getElem? idx hd
        simpa [Descriptor.isTransmitting] using this
      · exact .refl s
    · exact .refl s

theorem State.keeps_agingDue (aging : (s.port n).txq.agingDeadline ≠ none) : s.Keeps (s.agingDue n) := by
  unfold State.agingDue
  split
  · exact State.keeps_modPort (Port.calm_takeCandidate aging)
  · exact State.keeps_agingLoop ..

theorem State.keeps_flushDue (flush : (s.port n).txq.flush ≠ none) : s.Keeps (s.flushDue n) := by
  unfold State.flushDue
  refine .trans (State.keeps_modPort (n := n) (Port.calm_scheduleRemoval (now := s.now) flush)) ?_
  simp only
  split
  · rename_i i idx
    refine (State.keeps_removeAt fun d hd hq ht => ?_).trans (State.keeps_afterRemoval ..)
    have marked := of_findIdx?_getElem? idx hd
    rw [hq.unmarked d (List.mem_of_getElem? hd) ht] at marked
    exact absurd marked (by decide)
  · refine State.keeps_modPort (Port.calm_endFlush (by assumption) ?_)
    simpa [Port.scheduleRemoval] using flush

theorem State.keeps_releaseDue (n : PortId) (s : State) : s.Keeps (s.releaseDue n) :=
  (State.keeps_modPort (Port.calm_clearRelease _)).trans (State.keeps_settle ..)

theorem State.keeps_urgencyDue (n : PortId) (s : State) : s.Keeps (s.urgencyDue n) :=
  (State.keeps_modPort (Port.calm_clearUrgency _)).trans (State.keeps_promoteCheck ..)

end

end Sys2Proof.Machine
end

section
/-! What every step keeps: a frame at the system stream port from its start to its end (R105 to R111), with the cells an
admission takes from the free list (R100, R107), and the end of a frame on the line (R12, R114). -/

-- One theorem at a time: their elaboration side by side would each hold a thread and its stack.
set_option Elab.async false

namespace Sys2Proof.Machine

/-! ## The end of an earlier frame (R111) -/

section
variable {s : State} {n : PortId}

/-- A FILLING descriptor removed leaves no frame on route QUEUED (R117). -/
theorem State.removeAt_ingress {i : Nat} {c : Counter} {d : Descriptor} (at_ : (s.port n).txq.queue[i]? = some d)
    (state : d.state = .filling) :
    ((s.removeAt n i c).port n).ssp.ingress = (s.port n).ssp.ingress.map fun g => { g with route := .ignore } := by
  have taken : (((s.modPort n (Port.takeOut i d c)).modPool (Pool.freeCells d.cells)).port n).ssp.ingress =
      (s.port n).ssp.ingress.map fun g => { g with route := .ignore } := by
    rw [State.port_modPool, State.port_modPort_same, Port.takeOut_eq]
    exact if_pos state
  unfold State.removeAt
  rw [at_]
  simp only
  split
  · rw [(State.apart_newHead ..).ingress, taken]
  · exact taken

theorem State.abortFilling_ingress (n : PortId) (s : State) :
    ((s.abortFilling n).port n).ssp.ingress =
      if (s.port n).txq.fillingIdx = none then (s.port n).ssp.ingress
      else (s.port n).ssp.ingress.map fun g => { g with route := .ignore } := by
  unfold State.abortFilling
  cases idx : (s.port n).txq.fillingIdx with
  | none => rfl
  | some i =>
    obtain ⟨hi, hstate, -⟩ := List.findIdx?_eq_some_iff_getElem.mp idx
    rw [(State.apart_afterRemoval ..).ingress,
      State.removeAt_ingress (List.getElem?_eq_getElem hi) (by simpa using hstate)]
    rfl

/-- After an abort no frame in progress is on route QUEUED. -/
theorem State.abortFilling_route (n : PortId) (s : State) (h : ((s.abortFilling n).port n).QueueLaw) :
    ∀ x, ((s.abortFilling n).port n).ssp.ingress = some x → x.route ≠ .queued := by
  have route := State.abortFilling_ingress n s
  cases idx : (s.port n).txq.fillingIdx with
  | none =>
    intro x hx hr
    have same : s.abortFilling n = s := by unfold State.abortFilling; rw [idx]
    rw [same] at h hx
    obtain ⟨d, hd, hf⟩ := h.filling.mpr ⟨x, hx, hr⟩
    have := List.findIdx?_eq_none_iff.mp idx d hd
    simp [hf] at this
  | some i =>
    rw [route, idx]
    cases (s.port n).ssp.ingress <;> simp

theorem Port.abortBypass_ssp (p : Port) : p.abortBypass.ssp = p.ssp := by
  unfold Port.abortBypass Port.endBypass
  split <;> rfl

theorem State.keeps_endEarlier (n : PortId) (s : State) : s.Keeps (s.endEarlier n) := by
  unfold State.endEarlier
  split
  · exact .refl s
  · split
    · exact State.keeps_abortFilling ..
    · exact State.keeps_modPort (Port.calm_abortBypass _)
    · exact .refl s

/-- What comes after the end of an earlier frame finds none on route QUEUED (R111). -/
theorem State.endEarlier_route (n : PortId) (s : State) (h : ((s.endEarlier n).port n).QueueLaw) :
    ∀ x, ((s.endEarlier n).port n).ssp.ingress = some x → x.route ≠ .queued := by
  revert h
  unfold State.endEarlier
  split
  · rename_i none_; intro _ x hx; simp [none_] at hx
  · rename_i g hg
    split
    · exact State.abortFilling_route n s
    · intro _ x hx
      rw [State.port_modPort_same, Port.abortBypass_ssp, hg] at hx
      cases hx
      simp [*]
    · intro _ x hx
      rw [hg] at hx
      cases hx
      simp [*]

/-! ## Admission (R103, R107) -/

/-- The cells of a frame of a length that a DATA frame may have are at most 16. -/
theorem cellsFor_le {length : Nat} (h : length ≤ 2048) : cellsFor length ≤ 16 := by
  unfold cellsFor Config.cellBytes
  omega

/-- While HOLDOFF is not asserted a frame of 16 cells would be admitted (R103). -/
theorem State.room_of_not_holdoff (up : (s.port n).lpe.link = .up) (open_ : s.holdoff n = false) :
    (s.port n).heldCells + 16 ≤ (s.port n).cfg.cap.toNat ∧ s.sharedWith n 16 ≤ 4096 - s.sumReserves ∧
      (s.port n).txq.queue.length < 128 := by
  have test : s.admissionTest n 16 = true := by
    simp only [State.holdoff, up, beq_self_eq_true, Bool.true_and, Bool.or_eq_false_iff, Bool.not_eq_false'] at open_
    exact open_.2
  simp only [State.admissionTest, Bool.and_eq_true, decide_eq_true_eq] at test
  exact ⟨test.1.1, test.1.2, test.2⟩

/-- The cells held by all ports are at most those held beyond the reserves and the reserves. -/
theorem State.held_add_le_sharedWith (s : State) (n : PortId) (k : Nat) :
    (allPorts.map fun m => (s.port m).heldCells).sum + k ≤ s.sharedWith n k + s.sumReserves := by
  unfold State.sharedWith State.sumReserves State.sumPorts
  rw [sum_ports_split n, sum_ports_split n (fun m => if m = n then _ else _), sum_ports_split n fun m => (s.port m).cfg.reserve.toNat]
  have rest : ((otherPorts n).map fun m => (s.port m).heldCells).sum ≤
      ((otherPorts n).map fun m => if m = n then (s.port m).heldCells + k - (s.port m).cfg.reserve.toNat
        else (s.port m).shared).sum + ((otherPorts n).map fun m => (s.port m).cfg.reserve.toNat).sum := by
    rw [← List.sum_map_add]
    refine List.sum_le_sum fun m hm => ?_
    rw [if_neg (ne_of_mem_otherPorts hm), Port.shared]
    omega
  rw [if_pos rfl]
  omega

theorem length_cellsFrom (k i : Nat) : (cellsFrom k i).length = k := by
  induction k generalizing i with
  | zero => rfl
  | succ k ih => rw [cellsFrom, List.length_cons, ih]

/-- The free list and what the ports hold make up the pool (R99). -/
theorem State.PoolLaw.free_length (h : s.PoolLaw) :
    s.pool.free.length + (allPorts.map fun m => (s.port m).heldCells).sum = 4096 := by
  have total := h.2.length_eq
  rw [List.length_append, List.length_flatMap] at total
  have all : allCells.length = 4096 := by rw [allCells, length_cellsFrom]; rfl
  simp only [List.length_flatMap] at total
  rw [all] at total
  exact total

/-- Under the quotas the free list holds the cells that an admission takes (R99, R101, R103). -/
theorem State.free_of_room (pool : s.PoolLaw) (quota : s.QuotaLaw) (room : s.sharedWith n 16 ≤ 4096 - s.sumReserves) :
    16 ≤ s.pool.free.length := by
  have := pool.free_length
  have := s.held_add_le_sharedWith n 16
  have := ((State.quotaLaw_iff s).mp quota).2
  omega

/-- A port that takes cells from the head of the free list for a new descriptor, within the quotas (R107). -/
theorem State.Keeps.of_admission {t : State} {d : Descriptor} {g : Ingress} (up : (s.port n).lpe.link = .up)
    (open_ : s.holdoff n = false) (size : 64 ≤ d.length ∧ d.length ≤ 2048) (state : d.state = .filling)
    (mark : d.mark = false) (route : g.route = .queued)
    (earlier : (s.port n).QueueLaw → ∀ x, (s.port n).ssp.ingress = some x → x.route ≠ .queued)
    (cells : d.cells = s.pool.free.take (cellsFor d.length))
    (others : ∀ m, m ≠ n → t.port m = s.port m) (port : t.port n = ((s.port n).setIngress (some g)).append d)
    (free : t.pool.free = s.pool.free.drop (cellsFor d.length) := by rfl) (data : t.pool.data = s.pool.data := by rfl)
    (wba : t.wba = s.wba := by rfl) (held : t.resetHeld = s.resetHeld := by rfl) : s.Keeps t := by
  obtain ⟨cap, shared, length⟩ := State.room_of_not_holdoff up open_
  have few := cellsFor_le size.2
  have taken : d.cells.length ≤ 16 := by rw [cells, List.length_take]; omega
  have heldNow : (t.port n).heldCells = (s.port n).heldCells + d.cells.length := by
    rw [port, Port.append_eq, Port.heldCells, Port.heldCells]
    simp
  have cfg (m : PortId) : (t.port m).cfg = (s.port m).cfg :=
    forall_port (P := fun m => (t.port m).cfg = (s.port m).cfg) n (by rw [port, Port.append_eq]; rfl)
      (fun m hm => by rw [others m hm]) m
  refine ⟨held, fun h => forall_port n ?_ fun m hm => ?_, fun hl h => forall_port n ?_ fun m hm => ?_, fun h => forall_port n ?_ fun m hm => ?_,
    fun _ h => ?_, fun _ h => h.exchange (fun m hm => by rw [others m hm]) data ?_, fun hl hp hq h => forall_port n ?_ fun m hm => ?_,
    fun _ h => h.congr wba (forall_port n ?_ fun m hm => by rw [others m hm])⟩
  case refine_2 | refine_4 | refine_6 => rw [others m hm]; exact h m
  case refine_10 => rw [others m hm]; exact h m
  · rw [port, Port.append_eq]
    exact (h n).of_up up ((h n).online up) ((h n).advertised up)
  · rw [port, Port.append_eq]; exact (h n).congr
  · rw [port, Port.append_eq]; exact (h n).congr
  · rw [State.quotaLaw_iff] at h ⊢
    obtain ⟨hcap, hsum⟩ := h
    have reserves : t.sumReserves = s.sumReserves := by
      unfold State.sumReserves State.sumPorts; simp only [cfg]
    have sharedNow : t.sharedInUse ≤ s.sharedWith n 16 := by
      refine List.sum_le_sum (l := allPorts) (f := fun m => (t.port m).shared) (g := fun m => if m = n then
        (s.port m).heldCells + 16 - (s.port m).cfg.reserve.toNat else (s.port m).shared) fun m _ => ?_
      split
      · subst_vars
        rw [Port.shared, heldNow, cfg]
        omega
      · rw [others m (by assumption)]
    refine ⟨forall_port n ?_ fun m hm => by rw [others m hm]; exact hcap m, ?_⟩
    · rw [heldNow, cfg]; omega
    · rw [reserves]; omega
  · rw [free, port, Port.append_eq, Port.cells, Port.cells]
    simp only [List.flatMap_append, List.flatMap_cons, List.flatMap_nil, List.append_nil, Port.setIngress_txq, cells]
    have joined := List.take_append_drop (cellsFor d.length) s.pool.free
    generalize s.pool.free.take (cellsFor d.length) = front at joined
    generalize s.pool.free.drop (cellsFor d.length) = back at joined
    rw [← joined, ← List.append_assoc]
    exact List.perm_append_comm.trans (List.Perm.of_eq (List.append_assoc ..).symm)
  · rw [port]
    have room := State.free_of_room hp hq shared
    refine (h n).of_admission (earlier (h n)) length state mark size ?_ route
    rw [cells, List.length_take]
    unfold cellsFor Config.cellBytes at *
    omega
  · rw [port, Port.append_eq]; rfl

theorem Port.calm_startBypass {p : Port} {length : Nat} {tag : Byte} (up : p.lpe.link = .up) (tx : p.lpe.tx = .idle) :
    p.Calm (p.startBypass length tag) := by
  refine (((p.calm_count _).trans (Port.calm_count _ _)).trans (Port.calm_emit _ _)).trans
    (Port.calm_setTx (fun _ => up) ?_ (by simp))
  simp [tx]

theorem Port.ssp_startBypass (p : Port) (length : Nat) (tag : Byte) : (p.startBypass length tag).ssp = p.ssp := rfl

theorem State.poolLowCheck_eq (s : State) : ∃ dev, s.poolLowCheck = { s with dev := dev } := by
  unfold State.poolLowCheck
  split <;> exact ⟨_, rfl⟩

theorem State.keeps_admitFrame {length : Nat} {tag : Byte} {g : Ingress} (up : (s.port n).lpe.link = .up)
    (open_ : s.holdoff n = false) (size : 64 ≤ length ∧ length ≤ 2048) (route : g.route = .queued)
    (earlier : (s.port n).QueueLaw → ∀ x, (s.port n).ssp.ingress = some x → x.route ≠ .queued) :
    s.Keeps ((s.modPort n (Port.setIngress (some g))).admitFrame n length tag) := by
  unfold State.admitFrame
  simp only
  generalize hd : ((s.modPort n (Port.setIngress (some g))).port n).newDescriptor _ _ length tag = d
  obtain ⟨dev, hlow⟩ := ((s.modPort n (Port.setIngress (some g))).modPool (Pool.takeCells (cellsFor length))).poolLowCheck_eq
  rw [hlow]
  have hlength : d.length = length := by rw [← hd]; rfl
  have admitted : s.Keeps (({ (s.modPort n (Port.setIngress (some g))).modPool (Pool.takeCells (cellsFor length)) with
      dev := dev } : State).modPort n (Port.append d)) := by
    refine .of_admission (n := n) (d := d) (g := g) up open_ (hlength ▸ size) (by rw [← hd]; rfl) (by rw [← hd]; rfl)
      route earlier (by rw [← hd]; rfl) (fun m hm => ?_) ?_ (by rw [hlength]; rfl)
    · rw [State.port_modPort_ne _ hm]
      exact State.port_modPort_ne _ hm _
    · rw [State.port_modPort_same]
      exact congrArg (Port.append d) (State.port_modPort_same ..)
  refine .trans (.trans (.trans admitted ?_) (State.keeps_promoteCheck ..))
    (.trans (State.keeps_wakeCheck ..) (State.keeps_modPort (Port.calm_idleUpdate _ _)))
  split
  · exact State.keeps_newHead ..
  · exact .refl _

theorem State.keeps_ignoreFrame {length : Nat} {tag : Byte} {c : Counter}
    (earlier : (s.port n).QueueLaw → ∀ x, (s.port n).ssp.ingress = some x → x.route ≠ .queued) :
    s.Keeps (s.ignoreFrame n length tag c) := by
  refine State.keeps_modPort ((Port.calm_discard ..).trans (Port.calm_setIngress ?_ ?_ fun h => earlier h.congr))
  · simp
  · simp

theorem State.keeps_decideFrame {length : Nat} {tag : Byte}
    (earlier : (s.port n).QueueLaw → ∀ x, (s.port n).ssp.ingress = some x → x.route ≠ .queued) :
    s.Keeps (s.decideFrame n length tag) := by
  unfold State.decideFrame
  simp only
  split
  · exact State.keeps_ignoreFrame earlier
  · rename_i linked
    have up : (s.port n).lpe.link = .up := not_not.mp fun h => linked (.inl h)
    split
    · exact State.keeps_ignoreFrame earlier
    · rename_i open_
      split
      · exact State.keeps_ignoreFrame earlier
      · rename_i size
        split
        · rename_i bypass
          simp only [Port.mayBypass, Bool.and_eq_true, beq_iff_eq] at bypass
          obtain ⟨⟨⟨-, -⟩, tx⟩, -⟩ := bypass
          have started := Port.calm_startBypass (length := length) (tag := tag) up tx
          refine State.keeps_modPort ((started.trans (Port.calm_setIngress (by simp) ?_ fun h => ?_)).trans
            (Port.calm_idleUpdate _ _))
          · exact fun _ hn => absurd up hn
          · rw [Port.ssp_startBypass]
            refine earlier (h.congr (tx := ?_))
            simp [tx, Port.startBypass, Port.setTx]
        · refine State.keeps_admitFrame up (by simpa using open_) ?_ rfl earlier
          unfold Config.minLength Config.maxLength at size
          omega

theorem State.keeps_frameStart (n : PortId) (opening : Word) (s : State) : s.Keeps (s.frameStart n opening) :=
  (s.keeps_endEarlier n).trans (State.keeps_decideFrame (s.endEarlier_route n))

/-! ## The bytes and the end of a frame (R105, R108 to R110) -/

theorem State.keeps_dropIngress (earlier : (s.port n).QueueLaw → ∀ x, (s.port n).ssp.ingress = some x → x.route ≠ .queued) :
    s.Keeps (s.modPort n (Port.setIngress none)) :=
  State.keeps_modPort (Port.calm_setIngress (by simp) (by simp) earlier)

theorem State.keeps_endQueued (n : PortId) (bad : Bool) (s : State) : s.Keeps (s.endQueued n bad) := by
  unfold State.endQueued
  split
  · exact (s.keeps_abortFilling n).trans (State.keeps_dropIngress (s.abortFilling_route n))
  · split
    · exact (State.keeps_modPort (Port.calm_completeFilling (by assumption))).trans (State.keeps_settle ..)
    · rename_i idx
      refine State.keeps_dropIngress fun h x hx hr => ?_
      obtain ⟨d, hd, hf⟩ := h.filling.mpr ⟨x, hx, hr⟩
      have := List.findIdx?_eq_none_iff.mp idx d hd
      simp [hf] at this

theorem State.keeps_frameEnd (n : PortId) (closing : Word) (s : State) : s.Keeps (s.frameEnd n closing) := by
  unfold State.frameEnd
  split
  · exact .refl s
  · rename_i g hg
    have other (h : g.route ≠ .queued) (p : Port) (hp : p.ssp = (s.port n).ssp) :
        ∀ x, p.ssp.ingress = some x → x.route ≠ .queued := by
      rw [hp, hg]; intro x hx; cases hx; exact h
    simp only
    split
    · exact State.keeps_dropIngress fun _ => other (by simp [*]) _ rfl
    · exact State.keeps_endQueued ..
    · refine State.keeps_modPort ?_
      have ended (e : BypassEnd) (p : Port) : (p.endBypass e).ssp = p.ssp := by unfold Port.endBypass; split <;> rfl
      split
      · exact (Port.calm_abortBypass _).trans
          (Port.calm_setIngress (by simp) (by simp) fun _ => other (by simp [*]) _ (Port.abortBypass_ssp _))
      · exact (Port.calm_endBypass ..).trans
          (Port.calm_setIngress (by simp) (by simp) fun _ => other (by simp [*]) _ (ended ..))

/-- A byte written into the pool keeps its canonical form (R99, R108). -/
theorem State.keeps_writeByte (cells : List CellNo) (i : Nat) (b : Byte) (s : State) :
    s.Keeps (s.modPool (Pool.writeByte cells i b)) := by
  have free : (s.pool.writeByte cells i b).free = s.pool.free := by unfold Pool.writeByte; split <;> rfl
  refine ⟨rfl, id, fun _ => id, id, fun _ => id, fun _ h => ?_, fun _ _ _ => id, fun _ h => h.congr rfl fun _ => rfl⟩
  refine ⟨Pool.wf_writeByte h.1 .., ?_⟩
  rw [State.modPool_pool, free]
  exact h.2

theorem State.keeps_ingressByte (n : PortId) (b : Byte) (s : State) : s.Keeps (s.ingressByte n b) := by
  unfold State.ingressByte
  split
  · exact .refl s
  · rename_i g hg
    have counted : s.Keeps (s.modPort n (Port.setIngress (some { g with count := g.count + 1 }))) :=
      State.keeps_modPort (Port.calm_setIngress_route hg rfl)
    simp only
    split
    · exact counted
    · split
      · exact counted
      · exact counted.trans (State.keeps_modPort (Port.calm_passByte ..))
      · split
        · exact counted.trans (State.keeps_writeByte ..)
        · exact counted

/-! ## The end of a frame on the line (R12) -/

/-- The frame of the head ends on the line: the head leaves the queue, and its cells go back (R114). -/
theorem State.keeps_txQueued {check : BitVec 16} {last : LineTx} (tx : (s.port n).lpe.tx = .busy .queued check) :
    s.Keeps ((s.modPort n (Port.finishTx last)).completeHead n) := by
  have finished (h : ∀ d rest, (s.port n).txq.queue = d :: rest → d.state ≠ .transmitting) :
      s.Keeps (s.modPort n (Port.finishTx last)) := State.keeps_modPort (Port.still_finishTx_queued tx h)
  have same : ((s.modPort n (Port.finishTx last)).port n).txq.queue = (s.port n).txq.queue := by
    rw [State.port_modPort_same]; rfl
  unfold State.completeHead
  rw [same]
  cases hq : (s.port n).txq.queue with
  | nil => exact finished fun d rest h => by rw [hq] at h; cases h
  | cons d rest =>
    simp only
    split
    · rename_i state
      refine .trans ?_ (State.keeps_newHead ..)
      rw [State.modPort_modPort]
      refine .of_release (n := n) (freed := d.cells) (fun m hm => by simp [hm]) ?_ ?_ ?_ ?_ <;>
        rw [State.port_modPool, State.port_modPort_same]
      · exact Port.keeps_completeHead tx hq state
      · rfl
      · rfl
      · rw [Port.cells, Port.cells, hq]; rfl
    · rename_i state
      refine finished fun d' rest' h => ?_
      rw [hq] at h
      cases h
      exact state

theorem State.keeps_txComplete (n : PortId) (s : State) : s.Keeps (s.txComplete n) := by
  unfold State.txComplete
  split
  · exact .refl s
  · rename_i kind check htx
    have other (h : kind ≠ .queued) (last : LineTx) : (s.port n).Calm ((s.port n).finishTx last) :=
      Port.calm_finishTx fun c hc => by rw [htx] at hc; cases hc; exact h rfl
    split
    · exact (State.keeps_txQueued htx).trans (State.keeps_settle ..)
    · exact .refl s
    · exact (State.keeps_modPort ((other (by simp) _).trans (Port.calm_count ..))).trans (State.keeps_settle ..)
    · exact (State.keeps_modPort (other (by simp) _)).trans (State.keeps_settle ..)
    · exact (State.keeps_modPort ((other (by simp) _).trans (Port.calm_advertSent ..))).trans (State.keeps_settle ..)
    · exact (State.keeps_modPort (other (by simp) _)).trans (State.keeps_settle ..)

/-! ## Management frames (chapter 5) -/

theorem State.keeps_echoExpiry (n : PortId) (s : State) : s.Keeps (s.echoExpiry n) := by
  unfold State.echoExpiry
  refine .trans (State.keeps_modPort (Port.calm_stopEcho (s.port n))) ?_
  simp only
  split
  · rename_i pending
    split
    · exact (State.keeps_modPort (Port.calm_retryAdvert pending)).trans (State.keeps_afterPending ..)
    · exact State.keeps_modPort ((Port.calm_advertFailed pending).trans (Port.calm_idleUpdate _ _))
  · exact .refl _

theorem State.keeps_hearAdvert (n : PortId) (frame : MgmtFrame) (s : State) : s.Keeps (s.hearAdvert n frame) := by
  unfold State.hearAdvert
  split
  · rename_i observed
    have up : ((s.modPort n Port.endManagement).port n).lpe.link = .up := by
      simp only [Port.observesFrames, Bool.and_eq_true, beq_iff_eq] at observed
      rw [State.port_modPort_same, Port.endManagement_eq]
      exact observed.1
    refine .trans (State.keeps_modPort (Port.calm_endManagement (s.port n))) ?_
    simp only
    split
    · exact State.keeps_modPort (Port.calm_count ..)
    · split
      · exact (State.keeps_modPort (Port.calm_takeAdvert up _)).trans (State.keeps_afterPending ..)
      · exact State.keeps_modPort (Port.calm_count ..)
  · exact .refl s

end

end Sys2Proof.Machine
end

section
/-! What every step keeps: the link as it moves below UP, reaches UP and leaves it (R2 to R9), with the pool and the arbiter
(R80, R120). -/

-- One theorem at a time: their elaboration side by side would each hold a thread and its stack.
set_option Elab.async false

namespace Sys2Proof.Machine

/-! ## A link that is not UP -/

section
variable {now : Nat} {p q : Port}

/-- A link that moves below UP changes nothing else that a law speaks of. -/
theorem Port.Calm.of_link (before : p.lpe.link ≠ .up) (after : q.lpe.link ≠ .up)
    (enabled : p.LinkLaw → q.cfg.enable = false → q.lpe.link = .down) (tx : q.lpe.tx = p.lpe.tx := by rfl)
    (psc : q.psc = p.psc := by rfl) (adu : q.adu = p.adu := by rfl) (txq : q.txq = p.txq := by rfl)
    (ssp : q.ssp = p.ssp := by rfl) (dgv : q.dgv = p.dgv := by rfl) (cfg : q.cfg = p.cfg := by rfl)
    (busy : q.slot.busy = p.slot.busy := by rfl) : p.Calm q where
  link h := by
    have henabled := enabled h
    obtain ⟨h1, h2, h3, h4, h5, h6, h7, h8, h9, h10⟩ := h
    refine ⟨fun _ => ?_, fun _ => ?_, fun _ => ?_, fun _ => ?_, fun _ => ?_, fun _ => ?_, fun _ => ?_, henabled,
      fun h => absurd h after, fun h => absurd h after⟩ <;> simp only [tx, psc, adu, txq, ssp, dgv]
    · exact h1 before
    · exact h2 before
    · exact h3 before
    · exact h4 before
    · exact h5 before
    · exact h6 before
    · exact h7 before
  sleep _ h := h.congr psc (by rw [adu])
  governor h := h.congr cfg (by rw [dgv]) (by rw [dgv])
  queue _ h := h.congr (by rw [txq]) (by rw [txq]) (by rw [ssp]) (by rw [tx]) busy
  cells := by rw [txq]
  cfg := cfg
  demand := by rw [psc]

theorem Port.calm_acquireLink (enable : p.cfg.enable = true) (off : p.lpe.link ≠ .up) : p.Calm (p.acquireLink now) :=
  .of_link off (by simp [Port.acquireLink]) fun _ h => by
    have : p.cfg.enable = false := h
    simp [enable] at this

/-- An entry into DOWN, in full (R2). -/
theorem Port.enterDown_eq (now : Nat) (p : Port) :
    p.enterDown now =
      if p.cfg.enable = true ∧ p.lpe.signal = true then
        { p with lpe := { p.lpe with link := .acquiring, acquire := some (now + 1000), restart := none } }
      else { p with lpe := { p.lpe with link := .down, acquire := none, restart := none } } := by
  unfold Port.enterDown
  simp only [Bool.and_eq_true]
  rfl

theorem Port.calm_enterDown (off : p.lpe.link ≠ .up) : p.Calm (p.enterDown now) := by
  rw [Port.enterDown_eq]
  split
  · rename_i h
    exact Port.calm_acquireLink h.1 off
  · exact .of_link off (by simp) fun _ _ => rfl

theorem Port.calm_signalPresent (now : Nat) (p : Port) : p.Calm (p.signalPresent now) := by
  unfold Port.signalPresent
  simp only
  split
  · rename_i h
    exact (p.calm_setSignal true).trans (Port.calm_acquireLink h.2 (by rw [h.1]; decide))
  · exact p.calm_setSignal true

end

/-! ## Reaching UP (R4) -/

section
variable {s : State} {n : PortId}

theorem Port.still_linkUp {now : Nat} {p : Port} (state : p.lpe.link = .acquiring) : p.Still (p.linkUp now) := by
  have off : p.lpe.link ≠ .up := by simp [state]
  refine ⟨⟨fun hl => ?_, fun hl _ => ?_, fun h => h.congr, fun _ h => h.congr⟩, rfl, rfl⟩
  · refine ⟨absurd rfl, absurd rfl, absurd rfl, absurd rfl, absurd rfl, absurd rfl, absurd rfl, fun h => ?_,
      fun _ => ?_, fun _ => ?_⟩
    · exact absurd (hl.enabled h) (by simp [state])
    · simp [Port.linkUp, Port.startRestore, Port.advertise]
    · simp [Port.linkUp, Port.startRestore, Port.advertise]
  · have psc : (p.linkUp now).psc = { p.psc with ps := .active, rs := .awake, force := false } := rfl
    constructor <;> simp [psc, hl.psc off, PS.joint, PS.needsPartner, PS.refreshes]

theorem State.keeps_raiseLink (state : (s.port n).lpe.link = .acquiring) : s.Keeps (s.raiseLink n) := by
  refine .trans (State.keeps_modPort_still (Port.still_linkUp state) fun hl h => h.congr rfl ?_) (State.keeps_settle ..)
  refine forall_port n ?_ fun m hm => by rw [State.port_modPort_ne _ hm]
  rw [State.port_modPort_same, (hl n).psc (by simp [state])]
  rfl

theorem State.keeps_acquireExpiry (n : PortId) (s : State) : s.Keeps (s.acquireExpiry n) := by
  unfold State.acquireExpiry
  refine .trans (State.keeps_modPort (Port.calm_stopAcquire (s.port n))) ?_
  simp only
  split
  · exact State.keeps_raiseLink (by assumption)
  · exact .refl _

theorem State.keeps_restartExpiry (n : PortId) (s : State) : s.Keeps (s.restartExpiry n) := by
  unfold State.restartExpiry
  refine .trans (State.keeps_modPort (Port.calm_stopRestart (s.port n))) ?_
  simp only
  split
  · rename_i h
    exact State.keeps_modPort (Port.calm_enterDown (by rw [h]; decide))
  · exact .refl _

end

/-! ## Leaving UP (R6) -/

/-- The port's blocks at the loss of the link, in full (R6, R13, R45, R96, R119, R120, R148). -/
theorem Port.linkLost_eq (p : Port) : p.linkLost = { p with
    lpe := { p.lpe with tx := .idle }
    psc := {}
    adu := p.adu.linkLost
    txq := {}
    ssp := { ingress := p.ssp.ingress.map fun g => { g with route := .ignore }, rx := none }
    dgv := { p.dgv with restore := none }
    slot := if p.txq.flush = none then p.slot else { busy := false, command := .flush, result := .done, reason := .none }
    counters := { p.counters with
      discLinkdown := satAdd p.counters.discLinkdown (p.txq.queue.length + (uncounted p.lpe.tx).toNat)
      rxErr := satAdd p.counters.rxErr (delivering p.ssp.rx).toNat
      mgmtDiscard := satAdd p.counters.mgmtDiscard (if p.ssp.rx = some .management then 1 else 0) }
    flags := p.flags ||| BitVec.twoPow 11 1
      ||| (if p.txq.queue ≠ [] ∨ uncounted p.lpe.tx = true then BitVec.twoPow 11 8 else 0)
      ||| (if p.txq.flush ≠ none then BitVec.twoPow 11 9 else 0)
    lineOut := p.lineOut ++ (if p.lpe.tx = .idle then [] else [.truncated])
    egressOut := p.egressOut ++ cutWords p.ssp.rx } := by
  have count : (uncounted p.lpe.tx).toNat + p.txq.queue.length = p.txq.queue.length + (uncounted p.lpe.tx).toNat :=
    Nat.add_comm ..
  unfold Port.linkLost Port.emptyQueue
  simp only [Port.discards_eq, Port.breakRx_eq, Port.abandonTx_eq, Psc.linkLost_eq, Port.ignoreIngress, Port.endFlush,
    Port.done, Port.raise, PortFlag.bit, satAdd_satAdd, count]
  cases flush : p.txq.flush <;> cases unc : uncounted p.lpe.tx <;> cases queue : p.txq.queue <;>
    simp [BitVec.or_assoc]

section
variable (p : Port)

@[simp] theorem Port.linkLost_link : p.linkLost.lpe.link = p.lpe.link := by rw [Port.linkLost_eq]
@[simp] theorem Port.linkLost_tx : p.linkLost.lpe.tx = .idle := by rw [Port.linkLost_eq]
@[simp] theorem Port.linkLost_psc : p.linkLost.psc = {} := by rw [Port.linkLost_eq]
@[simp] theorem Port.linkLost_adu : p.linkLost.adu = p.adu.linkLost := by rw [Port.linkLost_eq]
@[simp] theorem Port.linkLost_txq : p.linkLost.txq = {} := by rw [Port.linkLost_eq]
@[simp] theorem Port.linkLost_rx : p.linkLost.ssp.rx = none := by rw [Port.linkLost_eq]
@[simp] theorem Port.linkLost_ingress :
    p.linkLost.ssp.ingress = p.ssp.ingress.map fun g => { g with route := .ignore } := by rw [Port.linkLost_eq]
@[simp] theorem Port.linkLost_dgv : p.linkLost.dgv = { p.dgv with restore := none } := by rw [Port.linkLost_eq]
@[simp] theorem Port.linkLost_cfg : p.linkLost.cfg = p.cfg := by rw [Port.linkLost_eq]
@[simp] theorem Port.linkLost_slot : p.linkLost.slot = if p.txq.flush = none then p.slot else
    { busy := false, command := .flush, result := .done, reason := .none } := by rw [Port.linkLost_eq]

theorem Port.linkLost_idle {p : Port} (idle : p.slot.busy = false) : p.linkLost.slot.busy = false := by
  rw [Port.linkLost_slot]
  split
  · exact idle
  · rfl

end

section
variable {s : State} {n : PortId}

/-- PSC n as after pin reset keeps the sleep law. -/
theorem Port.SleepLaw.of_offline {p : Port} (psc : p.psc = {}) : p.SleepLaw := by
  constructor <;> simp [psc, PS.joint, PS.needsPartner, PS.refreshes]

/-- What a port holds whose link is not UP and whose blocks are as after the loss of the link: every law but the queue law's
word on the slot. -/
theorem Port.LinkLaw.of_lost {p : Port} (off : p.lpe.link ≠ .up) (psc : p.psc = {}) (txq : p.txq = {})
    (tx : p.lpe.tx = .idle) (rx : p.ssp.rx = none) (adu : p.adu.linkLost = p.adu) (restore : p.dgv.restore = none)
    (ingress : ∀ g, p.ssp.ingress = some g → g.route = .ignore) (enabled : p.cfg.enable = false → p.lpe.link = .down) :
    p.LinkLaw :=
  ⟨fun _ => psc, fun _ => txq, fun _ => tx, fun _ => rx, fun _ => adu, fun _ => restore, fun _ => ingress, enabled,
    fun h => absurd h off, fun h => absurd h off⟩

/-- An empty queue with nothing in progress or in flight, at a slot that is not BUSY, keeps the queue law. -/
theorem Port.QueueLaw.of_empty {p : Port} (txq : p.txq = {}) (tx : p.lpe.tx = .idle) (busy : p.slot.busy = false)
    (ingress : ∀ g, p.ssp.ingress = some g → g.route = .ignore) : p.QueueLaw := by
  have free : ¬ ∃ g, p.ssp.ingress = some g ∧ g.route = .queued := fun ⟨g, hg, hr⟩ => by simp [ingress g hg] at hr
  constructor <;> simp [txq, tx, busy]
  exact fun g hg => by simp [ingress g hg]

/-- The shared blocks where port n, now `q`, has lost its link: its cells are freed and its entry is removed (R80, R120). -/
def State.unlink (n : PortId) (q : Port) (s : State) : State :=
  ((s.setPort n q).modPool (Pool.freeCells (s.port n).cells)).modWba (Wba.remove n)

@[simp] theorem State.port_unlink_same (n : PortId) (q : Port) (s : State) : (s.unlink n q).port n = q :=
  State.port_setPort_same ..

@[simp] theorem State.port_unlink_ne {n m : PortId} (h : m ≠ n) (q : Port) (s : State) :
    (s.unlink n q).port m = s.port m := State.port_setPort_ne s h q

theorem State.unlink_modPort (n : PortId) (q : Port) (g : Port → Port) (s : State) :
    (s.unlink n q).modPort n g = s.unlink n (g q) := by
  have replaced : (s.setPort n q).modPort n g = s.setPort n (g q) := State.modPort_setPort ..
  exact congrArg (fun u => (u.modPool (Pool.freeCells (s.port n).cells)).modWba (Wba.remove n)) replaced

/-- A unit of the budget count given back, without a test of the grant condition (R81). -/
def Wba.release (b : Wba) : Wba := { b with count := b.count - 1 }

/-- The loss of the link at a port already changed by `f`: the port loses its link, and a unit that it held is released, with
the grants that follow (R6, R79, R80, R120). -/
theorem State.loseLink_eq (grants : Bool) {f : Port → Port} (cells : (f (s.port n)).cells = (s.port n).cells) :
    (s.modPort n f).loseLink n grants =
      let u := s.unlink n (f (s.port n)).linkLost
      if (f (s.port n)).psc.ps.holdsUnit then
        if grants then (u.modWba Wba.release).testGrant else u.modWba Wba.release
      else u := by
  unfold State.loseLink State.releaseAtLoss State.releaseUnit
  simp only [State.port_modPort_same, State.modPort_modPort, cells]
  rfl

/-- What the loss of the link leaves of the port itself (R6). -/
theorem State.port_loseLink_same (n : PortId) (grants : Bool) (s : State) :
    (s.loseLink n grants).port n = (s.port n).linkLost := by
  have lost := State.loseLink_eq (s := s) (n := n) grants (f := id) rfl
  rw [State.modPort_id _ _ rfl] at lost
  rw [lost]
  simp only [id]
  split
  · split
    · rw [testGrant_port, State.port_modWba, State.port_unlink_same]
      rw [State.port_modWba, State.port_unlink_same, Port.linkLost_psc]; rfl
    · rw [State.port_modWba, State.port_unlink_same]
  · exact State.port_unlink_same ..

/-- The loss of the link with the grants that follow, and a change of the port behind it. -/
theorem State.loseLink_modPort {f g : Port → Port} (cells : (f (s.port n)).cells = (s.port n).cells)
    (gone : (g (f (s.port n)).linkLost).psc.ps.isGrantWait = false) :
    ((s.modPort n f).loseLink n true).modPort n g =
      let u := s.unlink n (g (f (s.port n)).linkLost)
      if (f (s.port n)).psc.ps.holdsUnit then (u.modWba Wba.release).testGrant else u := by
  have lost : (f (s.port n)).linkLost.psc.ps.isGrantWait = false := by rw [Port.linkLost_psc]; rfl
  rw [State.loseLink_eq true cells]
  simp only [if_true]
  split
  · generalize hq : (f (s.port n)).linkLost = q at *
    have waits : (((s.unlink n q).modWba Wba.release).port n).psc.ps.isGrantWait = false := by
      rw [State.port_modWba, State.port_unlink_same]; exact lost
    have later := State.testGrant_setPort waits gone
    rw [State.modPort, testGrant_port _ _ waits, State.port_modWba, State.port_unlink_same, ← later]
    have replaced : ((s.unlink n q).modWba Wba.release).setPort n (g q) =
        (s.unlink n (g q)).modWba Wba.release := by
      rw [← State.unlink_modPort, State.modPort, State.port_unlink_same]; rfl
    rw [replaced]
  · exact State.unlink_modPort ..

/-- The loss of the link keeps the laws where the port, with what precedes and what follows the loss, keeps its own. -/
theorem State.keeps_loss {f g : Port → Port} (queue : (f (s.port n)).txq.queue = (s.port n).txq.queue)
    (demand : (f (s.port n)).psc.ps.demand = (s.port n).psc.ps.demand)
    (gone : (g (f (s.port n)).linkLost).psc.ps.demand = (none, false))
    (empty : (g (f (s.port n)).linkLost).txq.queue = [])
    (port : (s.port n).Keeps (g (f (s.port n)).linkLost))
    (quota : s.Linked → s.QuotaLaw → (s.setPort n (g (f (s.port n)).linkLost)).QuotaLaw) :
    s.Keeps (((s.modPort n f).loseLink n true).modPort n g) := by
  have cells : (f (s.port n)).cells = (s.port n).cells := by rw [Port.cells, Port.cells, queue]
  have waits : (g (f (s.port n)).linkLost).psc.ps.isGrantWait = false := by
    rw [PS.isGrantWait_eq_demand, gone]; rfl
  have unit : (f (s.port n)).psc.ps.holdsUnit = (s.port n).psc.ps.holdsUnit := by
    rw [PS.holdsUnit_eq_demand, demand, ← PS.holdsUnit_eq_demand]
  rw [State.loseLink_modPort cells waits, unit]
  generalize g (f (s.port n)).linkLost = q at *
  have freed : ((s.port n).cells ++ q.cells).Perm (s.port n).cells := by rw [Port.cells, Port.cells, empty]; simp
  simp only
  split
  · rename_i held
    have same : (((s.unlink n q).modWba Wba.release).testGrant.port n) = q := by
      rw [testGrant_port _ _ (by rw [State.port_modWba, State.port_unlink_same]; exact waits), State.port_modWba,
        State.port_unlink_same]
    have ports (m : PortId) := Port.still_testGrant ((s.unlink n q).modWba Wba.release) m
    refine .of_exchange (n := n) (freed := (s.port n).cells) (fun m hm => ?_) (by rw [same]; exact port) (fun hl hq => ?_)
      (fun _ => by rw [same]; exact freed) (fun _ ha => ?_) (by rw [testGrant_pool]; rfl) (by rw [testGrant_pool]; rfl) (same_testGrant _).2.1
    · have := ports m
      rwa [State.port_modWba, State.port_unlink_ne hm] at this
    · exact (quota hl hq).congr (fun m => (ports m).cells) fun m => (ports m).cfg
    · have pos : 0 < s.wba.count := by
        rw [ha.count]; exact List.countP_pos_iff.mpr ⟨n, mem_allPorts n, held⟩
      refine (ha.entered.leave (t := (s.unlink n q).modWba Wba.release) (n := n) (fun m hm => ?_) ?_ rfl rfl ?_).testGrant
      · rw [State.port_modWba, State.port_unlink_ne hm]
      · rw [State.port_modWba, State.port_unlink_same]; exact waits
      · rw [State.port_modWba, State.port_unlink_same, PS.holdsUnit_eq_demand q.psc.ps, gone, held]
        show s.wba.count - 1 + 1 = s.wba.count + 0
        omega
  · rename_i free_
    refine .of_exchange (n := n) (fun m hm => ?_) ?_ quota (fun _ => ?_) fun _ ha => ?_
    · rw [State.port_unlink_ne hm]; exact .refl _
    · rw [State.port_unlink_same]; exact port
    · rw [State.port_unlink_same]; exact freed
    · refine ha.leave (n := n) (fun m hm => State.port_unlink_ne hm ..) ?_ (by simpa using free_) rfl
      rw [State.port_unlink_same]; exact gone

end

end Sys2Proof.Machine
end

section
/-! What every step keeps: the events at which a link leaves UP, the port commands, and the resets (R5 to R9, R34, R58, R158
to R169). -/

-- One theorem at a time: their elaboration side by side would each hold a thread and its stack.
set_option Elab.async false

namespace Sys2Proof.Machine

section
variable {s : State} {n : PortId}

/-! ## The events of the line -/

/-- A port whose blocks are as after the loss of the link keeps the laws, with its slot no longer BUSY. -/
theorem Port.Keeps.of_lost {p q : Port} (off : q.lpe.link ≠ .up) (psc : q.psc = {}) (txq : q.txq = {})
    (tx : q.lpe.tx = .idle) (rx : q.ssp.rx = none) (adu : q.adu.linkLost = q.adu) (restore : q.dgv.restore = none)
    (ingress : ∀ g, q.ssp.ingress = some g → g.route = .ignore)
    (enabled : p.LinkLaw → q.cfg.enable = false → q.lpe.link = .down) (governor : p.GovernorLaw → q.GovernorLaw)
    (busy : p.QueueLaw → q.slot.busy = false) : p.Keeps q where
  link h := .of_lost off psc txq tx rx adu restore ingress (enabled h)
  sleep _ _ := .of_offline psc
  governor := governor
  queue _ h := .of_empty txq tx (busy h) ingress

theorem ignored_route {x : Option Ingress} :
    ∀ g, (x.map fun g => { g with route := Route.ignore }) = some g → g.route = .ignore := by
  cases x with
  | none => simp
  | some y => intro g hg; cases hg; rfl

/-- The quotas of the pool with a port that holds no cells (R101). -/
theorem State.QuotaLaw.emptied (h : s.QuotaLaw) {q : Port} (cfg : q.cfg = (s.port n).cfg) (held : q.heldCells = 0) :
    (s.setPort n q).QuotaLaw := by
  refine h.release (forall_port n ?_ fun m hm => ?_) (forall_port n ?_ fun m hm => ?_) <;>
    first | rw [State.port_setPort_same] | rw [State.port_setPort_ne _ hm]
  · exact cfg
  · omega

/-- The loss of the link from a link state that `f` enters (R5, R6, R7, R8). -/
theorem State.keeps_loseLink {f : Port → Port} (off : (f (s.port n)).lpe.link ≠ .up)
    (enabled : (s.port n).LinkLaw → (f (s.port n)).cfg.enable = false → (f (s.port n)).lpe.link = .down)
    (governor : (s.port n).GovernorLaw → (f (s.port n)).GovernorLaw)
    (demand : (f (s.port n)).psc.ps.demand = (s.port n).psc.ps.demand)
    (txq : (f (s.port n)).txq = (s.port n).txq) (slot : (f (s.port n)).slot = (s.port n).slot)
    (quota : s.Linked → s.QuotaLaw → ∀ q : Port, q.cfg = (f (s.port n)).cfg → q.heldCells = 0 → (s.setPort n q).QuotaLaw) :
    s.Keeps ((s.modPort n f).loseLink n true) := by
  have lost : s.Keeps (((s.modPort n f).loseLink n true).modPort n id) := by
    refine State.keeps_loss (by rw [txq]) demand ?_ ?_ ?_ fun hl hq => quota hl hq _ ?_ ?_ <;> rw [id]
    · rw [Port.linkLost_psc]; rfl
    · rw [Port.linkLost_txq]
    · refine .of_lost (by rwa [Port.linkLost_link]) (Port.linkLost_psc _) (Port.linkLost_txq _) (Port.linkLost_tx _)
        (Port.linkLost_rx _) (by rw [Port.linkLost_adu]; rfl) (by rw [Port.linkLost_dgv]) ?_ (fun hl => ?_) (fun h => ?_)
        fun h => ?_
      · rw [Port.linkLost_ingress]; exact ignored_route
      · rw [Port.linkLost_cfg, Port.linkLost_link]; exact enabled hl
      · exact (governor h).congr (Port.linkLost_cfg _) (by rw [Port.linkLost_dgv]) (by rw [Port.linkLost_dgv])
      · rw [Port.linkLost_slot, slot, txq]
        split
        · rename_i none_
          have := h.busy
          rw [none_] at this
          simpa using this
        · rfl
    · exact Port.linkLost_cfg _
    · rw [Port.heldCells, Port.linkLost_txq]; rfl
  rwa [State.modPort_id _ _ rfl] at lost

theorem Port.enterDown_off (now : Nat) (p : Port) : (p.enterDown now).lpe.link ≠ .up := by
  rw [Port.enterDown_eq]
  split <;> simp

theorem Port.enterDown_of_disabled (now : Nat) {p : Port} (h : p.cfg.enable = false) :
    (p.enterDown now).lpe.link = .down := by
  rw [Port.enterDown_eq, if_neg (by simp [h])]

/-- An entry into DOWN moves the link and its timers alone (R2). -/
theorem Port.enterDown_frame (now : Nat) (p : Port) : p.enterDown now = { p with lpe := (p.enterDown now).lpe } := by
  rw [Port.enterDown_eq]
  split <;> rfl

/-- The loss of the signal takes the link down (R5). -/
theorem State.keeps_signalDrop (n : PortId) (s : State) : s.Keeps ((s.modPort n (Port.setSignal false)).dropLink n) := by
  unfold State.dropLink
  rw [State.modPort_modPort]
  refine State.keeps_loseLink (Port.enterDown_off _ _) (fun _ h => Port.enterDown_of_disabled _ ?_) ?_ ?_ ?_ ?_
    fun _ hq q cfg => hq.emptied ?_ <;> rw [Port.enterDown_frame] at *
  · exact h
  · exact fun h => h.congr
  · rfl
  · rfl
  · rfl
  · exact cfg

theorem State.keeps_signalLost (n : PortId) (s : State) : s.Keeps (s.signalLost n) := by
  have gone : s.Keeps (s.modPort n (Port.setSignal false)) := State.keeps_modPort (Port.calm_setSignal ..)
  unfold State.signalLost
  simp only
  split
  · rename_i h
    exact gone.trans (State.keeps_modPort (Port.calm_enterDown (by rw [h]; decide)))
  · split
    · exact s.keeps_signalDrop n
    · exact gone
  · exact gone
  · exact gone

/-- A restart order that follows a change of a port whose PSC n is not as after pin reset (R7, R34, R58). -/
theorem State.keeps_restartOrder {f : Port → Port} (active : (s.port n).psc ≠ {})
    (governor : (s.port n).GovernorLaw → (f (s.port n)).GovernorLaw)
    (demand : (f (s.port n)).psc.ps.demand = (s.port n).psc.ps.demand)
    (link : (f (s.port n)).lpe.link = (s.port n).lpe.link) (txq : (f (s.port n)).txq = (s.port n).txq)
    (slot : (f (s.port n)).slot = (s.port n).slot) (cfg : (f (s.port n)).cfg = (s.port n).cfg) :
    s.Keeps ((s.modPort n f).restartOrder n) := by
  unfold State.restartOrder
  rw [State.port_modPort_same, link]
  split
  · rename_i up
    rw [State.modPort_modPort]
    refine State.keeps_loseLink (by simp [Port.enterRestart]) (fun hl h => ?_) (fun h => ?_) demand txq slot
      fun _ hq q hcfg => hq.emptied (hcfg.trans cfg)
    · exact absurd (hl.enabled (cfg ▸ h)) (by rw [up]; decide)
    · exact (governor h).congr
  · rename_i down
    have off {P : Prop} (hl : s.Linked) : P := absurd ((hl n).up_of_psc active) down
    exact ⟨rfl, off, fun hl _ => off hl, fun h => forall_port n (by rw [State.port_modPort_same]; exact governor (h n))
      fun m hm => by rw [State.port_modPort_ne _ hm]; exact h m, fun hl _ => off hl, fun hl _ => off hl,
      fun hl _ _ _ => off hl, fun hl _ => off hl⟩

theorem Port.refreshLost_eq (now : Nat) (p : Port) : p.refreshLost now = Port.failure now { p with
    counters := { p.counters with refreshLoss := satAdd p.counters.refreshLoss 1 } } := by
  simp [Port.refreshLost, Port.count, Counters.bump, satInc_eq_satAdd]

theorem Port.wakeMissed_eq (now : Nat) (p : Port) : p.wakeMissed now = Port.failure now { p with
    counters := { p.counters with wakeFail := satAdd p.counters.wakeFail 1 }
    flags := p.flags ||| BitVec.twoPow 11 7 } := by
  simp [Port.wakeMissed, Port.count, Port.raise, Counters.bump, satInc_eq_satAdd, PortFlag.bit]

/-- A failure report acts on DGV n and on the flag of the ceiling alone (R143, R144). -/
theorem Port.failure_frame (now : Nat) (p : Port) :
    p.failure now = { p with dgv := (p.failure now).dgv, flags := (p.failure now).flags } := by
  rw [Port.failure_eq]
  split
  · unfold Port.drop
    simp only
    split <;> rfl
  · rfl

theorem State.keeps_refreshLost (watch : (s.port n).psc.refreshWatch ≠ none) : s.Keeps (s.refreshLost n) := by
  unfold State.refreshLost
  refine State.keeps_restartOrder (fun h => watch (by rw [h])) ?_ ?_ ?_ ?_ ?_ ?_
  · exact fun h => (Port.calm_refreshLost ..).governor h.congr
  all_goals rw [Port.refreshLost_eq, Port.failure_frame]

theorem State.keeps_wakeFailed (n : PortId) (s : State) : s.Keeps (s.wakeFailed n) := by
  unfold State.wakeFailed
  split
  · rename_i w hw
    have ps : (s.port n).psc.ps = .waking w := by
      cases h : (s.port n).psc.ps <;> simp [h, PS.wake] at hw
      rw [hw]
    refine State.keeps_restartOrder (fun h => by simp [h] at ps) ?_ ?_ ?_ ?_ ?_ ?_
    · exact fun h => (Port.calm_wakeMissed ..).governor h.congr
    · rw [Port.wakeMissed_eq, Port.failure_frame, ps]; rfl
    all_goals rw [Port.wakeMissed_eq, Port.failure_frame]; rfl
  · exact .refl s

end

end Sys2Proof.Machine
end

section
/-! What every step keeps: the port commands at the slot (R158 to R168). -/

-- One theorem at a time: their elaboration side by side would each hold a thread and its stack.
set_option Elab.async false

namespace Sys2Proof.Machine

section
variable {s : State} {n : PortId}

/-! ## The slot (R158) -/

/-- A command at the slot keeps the laws where its accepted effect, with the report DONE, does. -/
theorem State.keeps_slotCommand {c : SlotCommand} {refusal : Option Reason} {effect : State → State}
    (accepted : (s.port n).slot.busy = false → refusal = none → s.Keeps ((effect s).modPort n (Port.done c))) :
    s.Keeps (s.slotCommand n c refusal effect) := by
  unfold State.slotCommand
  split
  · exact State.keeps_modPort (Port.calm_refuse ..)
  · rename_i idle
    split
    · exact State.keeps_modPort (Port.calm_refuse ..)
    · exact accepted (by simpa using idle) rfl

/-- The report DONE behind an effect that leaves the slot alone. -/
theorem State.keeps_done {t : State} {c : SlotCommand} (idle : (s.port n).slot.busy = false) (keeps : s.Keeps t)
    (slot : (t.port n).slot = (s.port n).slot) : s.Keeps (t.modPort n (Port.done c)) :=
  keeps.trans (State.keeps_modPort (Port.calm_done (by rw [slot, idle])))

theorem State.keeps_restoreCeiling (n : PortId) (s : State) : s.Keeps (s.restoreCeiling n) :=
  State.keeps_slotCommand fun idle _ => State.keeps_done idle (State.keeps_modPort (Port.calm_restoreCeiling _))
    (by rw [State.port_modPort_same, Port.restoreCeiling_eq])

theorem State.keeps_clearCounters (n : PortId) (s : State) : s.Keeps (s.clearCounters n) :=
  State.keeps_slotCommand fun idle _ => State.keeps_done idle (State.keeps_modPort (Port.calm_clearCounters _))
    (by rw [State.port_modPort_same]; rfl)

theorem State.keeps_flush (n : PortId) (s : State) : s.Keeps (s.flush n) := by
  unfold State.flush
  simp only
  split
  · exact State.keeps_modPort (Port.calm_refuse ..)
  · rename_i idle
    have idle' : (s.port n).slot.busy = false := by simpa using idle
    split
    · exact State.keeps_modPort (Port.calm_done idle')
    · exact State.keeps_modPort (Port.calm_beginFlush idle' (by assumption))

theorem State.keeps_forceWake (n : PortId) (s : State) : s.Keeps (s.forceWake n) := by
  refine State.keeps_slotCommand fun idle linked => ?_
  have up : (s.port n).lpe.link = .up := by
    by_contra h
    simp [h] at linked
  unfold State.forceEffect
  split
  · exact State.keeps_done idle (.refl s) rfl
  · have forced : s.Keeps (s.modPort n Port.setForce) := State.keeps_modPort (Port.calm_setForce up)
    have slot : ((s.modPort n Port.setForce).port n).slot = (s.port n).slot := by rw [State.port_modPort_same]; rfl
    simp only
    split
    · exact State.keeps_done idle (forced.trans (State.keeps_promoteCheck ..))
        ((State.apart_promoteCheck ..).slot.trans slot)
    · exact State.keeps_done idle (forced.trans (State.keeps_wakeCheck ..)) ((State.apart_wakeCheck ..).slot.trans slot)

theorem State.keeps_sendAdvert (n : PortId) (s : State) : s.Keeps (s.sendAdvert n) := by
  refine State.keeps_slotCommand fun idle _ => ?_
  have taken : s.Keeps (s.modPort n fun p => { p with adu := { p.adu with laLive := p.adu.laStaging } }) :=
    State.keeps_modPort (Port.calm_setLa ..)
  have slot : ((s.modPort n fun p => { p with adu := { p.adu with laLive := p.adu.laStaging } }).port n).slot =
      (s.port n).slot := by rw [State.port_modPort_same]
  unfold State.sendEffect
  simp only
  split
  · exact State.keeps_done idle taken slot
  · rename_i begun
    refine State.keeps_done idle (taken.trans (.trans (State.keeps_modPort ?_) (State.keeps_afterPending ..)))
      ((State.apart_afterPending ..).slot.trans ?_)
    · exact .of_adu (fun hl hn => absurd (hl.up_of_state begun) hn) (fun _ => by simp [Port.advertise])
    · rw [State.port_modPort_same]
      exact slot

/-! ## APPLY (R159 to R161) -/

/-- APPLY is accepted exactly with a valid staging copy that changes an idle field only at a port that is idle or not UP
(R159, R160). -/
theorem State.applyRefusal_eq_none_iff (s : State) (n : PortId) :
    s.applyRefusal n = none ↔ s.stagingValid n = true ∧
      ((s.port n).changesIdleField = true → (s.port n).lpe.link = .up → (s.port n).isIdle = true) := by
  unfold State.applyRefusal
  simp only
  cases s.stagingValid n <;> simp

/-- A port that holds cells takes an accepted staging copy only with its quotas as they are (R160). -/
theorem State.quotas_of_accepted (accepted : s.applyRefusal n = none) (hl : s.Linked)
    (held : (s.port n).heldCells ≠ 0) :
    (s.port n).staging.reserve = (s.port n).cfg.reserve ∧ (s.port n).staging.cap = (s.port n).cfg.cap := by
  obtain ⟨-, idle⟩ := (s.applyRefusal_eq_none_iff n).mp accepted
  have nonempty : (s.port n).txq.queue ≠ [] := fun h => held (by rw [Port.heldCells, h]; rfl)
  have up := (hl n).up_of_txq fun h => nonempty (by rw [h])
  have kept : (s.port n).changesIdleField = false := by
    by_contra h
    have := idle (by simpa using h) up
    simp [Port.isIdle, nonempty] at this
  simp only [Port.changesIdleField, Bool.or_eq_false_iff, bne_eq_false_iff_eq] at kept
  exact ⟨kept.1.2, kept.2⟩

/-- The quotas of the pool with an accepted staging copy live at port n, which holds no more cells than before (R159). -/
theorem State.quota_of_accepted (accepted : s.applyRefusal n = none) (hl : s.Linked) (h : s.QuotaLaw) {q : Port}
    (cfg : q.cfg = (s.port n).staging) (less : q.heldCells ≤ (s.port n).heldCells) : (s.setPort n q).QuotaLaw := by
  have quotas := State.quotas_of_accepted accepted hl
  obtain ⟨valid, -⟩ := (s.applyRefusal_eq_none_iff n).mp accepted
  simp only [State.stagingValid, Bool.and_eq_true, decide_eq_true_eq] at valid
  obtain ⟨-, fits⟩ := valid
  rw [State.quotaLaw_iff] at h ⊢
  obtain ⟨hcap, -⟩ := h
  have reserves : (s.setPort n q).sumReserves = s.sumReservesWith n (s.port n).staging.reserve.toNat := by
    refine congrArg List.sum (List.map_congr_left fun m _ => ?_)
    split
    · subst_vars; rw [State.port_setPort_same]; exact congrArg (fun c => c.reserve.toNat) cfg
    · rw [State.port_setPort_ne _ (by assumption)]
  have inUse : (s.setPort n q).sharedInUse ≤ s.sharedInUse := by
    refine List.sum_le_sum (l := allPorts) (f := fun m => ((s.setPort n q).port m).shared)
      (g := fun m => (s.port m).shared) fun m _ => ?_
    by_cases hm : m = n
    · subst hm
      rw [State.port_setPort_same, Port.shared, Port.shared, cfg]
      by_cases hz : (s.port m).heldCells = 0
      · omega
      · rw [(quotas hz).1]; omega
    · rw [State.port_setPort_ne _ hm]
  refine ⟨forall_port n ?_ fun m hm => by rw [State.port_setPort_ne _ hm]; exact hcap m, ?_⟩
  · rw [State.port_setPort_same, cfg]
    by_cases hz : (s.port n).heldCells = 0
    · omega
    · rw [(quotas hz).2]; exact less.trans (hcap n)
  · rw [reserves]
    have pool : Config.poolCells = 4096 := rfl
    omega

/-- An accepted staging copy keeps the governor law, with the ceiling pulled down to a lower max_ceiling and the counter
cleared at another threshold (R150, R151). -/
theorem State.governor_of_accepted (accepted : s.applyRefusal n = none) (h : (s.port n).GovernorLaw) :
    (s.port n).takeStaging.GovernorLaw := by
  obtain ⟨valid, -⟩ := (s.applyRefusal_eq_none_iff n).mp accepted
  simp only [State.stagingValid, Bool.and_eq_true] at valid
  obtain ⟨⟨range, aging⟩, -⟩ := valid
  have positive := PortConfig.threshold_pos range
  refine ⟨range, aging, ?_, ?_⟩
  · unfold Port.takeStaging
    simp only
    split
    · exact positive
    · rename_i same
      have hsame : (s.port n).staging.failThreshold = (s.port n).cfg.failThreshold := by simpa using same
      rw [hsame]; exact h.failures
  · unfold Port.takeStaging
    simp only
    split
    · exact le_rfl
    · rename_i same
      by_cases hc : (s.port n).staging.maxCeiling = (s.port n).cfg.maxCeiling
      · rw [hc]; exact h.ceiling
      · simp only [ne_eq, hc, not_false_eq_true, true_and, not_lt] at same
        exact same

/-- The link below UP with its timers, as `f` moves it, and the staging copy taken. -/
theorem State.keeps_takeStaging {f : Port → Port} (accepted : s.applyRefusal n = none)
    (frame : f (s.port n) = { (s.port n).takeStaging with lpe := (f (s.port n)).lpe })
    (tx : (f (s.port n)).lpe.tx = (s.port n).lpe.tx)
    (up : (s.port n).LinkLaw → ((f (s.port n)).lpe.link = .up ↔ (s.port n).lpe.link = .up))
    (enabled : (s.port n).LinkLaw → (s.port n).staging.enable = false → (f (s.port n)).lpe.link = .down) :
    s.Keeps (s.modPort n f) := by
  refine .of_exchange (n := n) (freed := []) (fun m hm => ?_) ⟨fun hl => ?_, fun _ h => ?_, fun h => ?_, fun _ h => ?_⟩
    (fun hl hq => ?_) (fun _ => ?_) (fun _ h => h.congr rfl (forall_port n ?_ fun m hm => ?_)) (List.append_nil _).symm
  · rw [State.port_modPort_ne _ hm]; exact .refl _
  all_goals first | rw [State.port_modPort_same] | rw [State.port_modPort_ne _ hm] | skip
  · have off (h : (f (s.port n)).lpe.link ≠ .up) : (s.port n).lpe.link ≠ .up := fun e => h ((up hl).mpr e)
    rw [frame]
    exact ⟨fun h => hl.psc (off h), fun h => hl.txq (off h), fun h => tx.trans (hl.tx (off h)), fun h => hl.rx (off h),
      fun h => hl.adu (off h), fun h => hl.restore (off h), fun h => hl.ingress (off h), enabled hl,
      fun h => hl.online ((up hl).mp h), fun h => hl.advertised ((up hl).mp h)⟩
  · rw [frame]; exact h.congr
  · rw [frame]; exact (State.governor_of_accepted accepted h).congr
  · rw [frame]; exact h.congr (tx := by rw [tx])
  · exact State.quota_of_accepted accepted hl hq (by rw [frame]; rfl) (by rw [frame]; rfl)
  · rw [frame]; exact .refl _
  · rw [frame]; rfl

/-- The staging copy taken at an UP link that it disables (R8). -/
theorem State.keeps_takeStaging_drop (accepted : s.applyRefusal n = none) :
    s.Keeps ((s.modPort n fun p => p.takeStaging.enterDown s.now).loseLink n true) := by
  have frame := Port.enterDown_frame s.now (s.port n).takeStaging
  have cfg : ((s.port n).takeStaging.enterDown s.now).cfg = (s.port n).staging := by rw [frame]; rfl
  refine State.keeps_loseLink (f := fun p => p.takeStaging.enterDown s.now) (Port.enterDown_off s.now _) (fun _ h => ?_)
    (fun h => ?_) (by rw [frame]; rfl) (by rw [frame]; rfl) (by rw [frame]; rfl) fun hl hq q hcfg held => ?_
  · exact Port.enterDown_of_disabled _ ((congrArg (fun c => c.enable) cfg).symm.trans h)
  · rw [frame]
    exact (State.governor_of_accepted accepted h).congr
  · exact State.quota_of_accepted accepted hl hq (hcfg.trans cfg) (by omega)

theorem State.keeps_apply (n : PortId) (s : State) : s.Keeps (s.apply n) := by
  refine State.keeps_slotCommand fun idle accepted => ?_
  have link : (s.port n).takeStaging.lpe.link = (s.port n).lpe.link := rfl
  have enable : (s.port n).takeStaging.cfg.enable = (s.port n).staging.enable := rfl
  unfold State.applyEffect State.disableLink State.dropLink
  simp only [State.port_modPort_same, State.modPort_modPort, State.modPort_now, link, enable]
  have kept (same : (s.port n).staging.enable = (s.port n).cfg.enable) : s.Keeps (s.modPort n Port.takeStaging) :=
    State.keeps_takeStaging accepted rfl rfl (fun _ => Iff.rfl) fun hl h => hl.enabled (by rw [← same, h])
  split
  · split
    · refine (State.keeps_takeStaging_drop accepted).trans (State.keeps_modPort (Port.calm_done ?_))
      rw [State.port_loseLink_same, State.port_modPort_same]
      refine Port.linkLost_idle ?_
      rw [Port.enterDown_frame]
      exact idle
    · rename_i off
      refine State.keeps_done idle (State.keeps_takeStaging (f := fun p => p.takeStaging.enterDown s.now) accepted
        (Port.enterDown_frame ..) ?_ (fun _ => ?_) fun _ h => ?_) ?_
      · simp only [Port.enterDown_eq]; split <;> rfl
      · exact iff_of_false (Port.enterDown_off s.now _) off
      · exact Port.enterDown_of_disabled _ h
      · rw [State.port_modPort_same, Port.enterDown_frame]; rfl
  · rename_i was now_
    refine State.keeps_done idle (State.keeps_takeStaging (f := fun p => p.takeStaging.enterRestart s.now) accepted
      rfl rfl (fun hl => ?_) fun _ h => ?_) (by rw [State.port_modPort_same]; rfl)
    · refine iff_of_false (by simp [Port.enterRestart]) fun h => ?_
      rw [hl.enabled was] at h
      cases h
    · rw [now_] at h; cases h
  · exact State.keeps_done idle (kept (by simp [*])) (by rw [State.port_modPort_same]; rfl)
  · exact State.keeps_done idle (kept (by simp [*])) (by rw [State.port_modPort_same]; rfl)

end

end Sys2Proof.Machine
end

section
/-! What every step keeps: the resets of a port and of the device (R9, R81, R123, R152, R168, R169, R170). -/

-- One theorem at a time: their elaboration side by side would each hold a thread and its stack.
set_option Elab.async false

namespace Sys2Proof.Machine

/-! ## A port at its reset (R9, R152) -/

/-- What a port holds at PSC n, ADU n, TXQ n and SSP n once its link has left UP (R45, R96, R120). -/
structure Port.Shed (p : Port) : Prop where
  psc : p.psc = {}
  txq : p.txq = {}
  rx : p.ssp.rx = none
  adu : p.adu.linkLost = p.adu
  ingress : ∀ g, p.ssp.ingress = some g → g.route = .ignore

/-- The port as a reset takes its link down: a FLUSH ends unreported, and an UP link is lost (R9, R165). -/
def Port.resetLoss (p : Port) : Port := if p.lpe.link = .up then p.dropFlush.linkLost else p.dropFlush

theorem Port.LinkLaw.shed_resetLoss {p : Port} (h : p.LinkLaw) : p.resetLoss.Shed := by
  unfold Port.resetLoss
  split
  · exact ⟨Port.linkLost_psc _, Port.linkLost_txq _, Port.linkLost_rx _, by rw [Port.linkLost_adu]; rfl,
      by rw [Port.linkLost_ingress]; exact ignored_route⟩
  · rename_i off
    exact ⟨h.psc off, by simp [Port.dropFlush, h.txq off], h.rx off, h.adu off, h.ingress off⟩

@[simp] theorem Port.resetLoss_cfg (p : Port) : p.resetLoss.cfg = p.cfg := by
  unfold Port.resetLoss
  split
  · rw [Port.linkLost_cfg]; rfl
  · rfl

/-- The blocks of a port at its reset, in full (R9, R152). -/
theorem Port.resetBlocks_eq (now : Nat) (p : Port) : p.resetBlocks now = { p with
    lpe := { p.lpe with
      link := if p.cfg.enable = true then .restart else .down
      acquire := none
      restart := if p.cfg.enable = true then some (now + 2000) else none
      tx := .idle
      lastFill := none }
    dgv := { ceiling := p.cfg.maxCeiling, failures := 0, restore := none } } := by
  unfold Port.resetBlocks
  cases h : p.cfg.enable <;> simp [Port.enterRestart, after, Config.restartTime]

/-- The failures due at a reset act on DGV n, on counters and on flags alone. -/
theorem Port.reportDue_frame (first : Bool) (now : Nat) (p was : Port) :
    p.reportDue first now was = { p with
      dgv := (p.reportDue first now was).dgv
      counters := (p.reportDue first now was).counters
      flags := (p.reportDue first now was).flags } := by
  have lost (q : Port) : q.refreshLost now = { q with
      dgv := (q.refreshLost now).dgv, counters := (q.refreshLost now).counters, flags := (q.refreshLost now).flags } := by
    rw [Port.refreshLost_eq, Port.failure_frame]
  have missed (q : Port) : q.wakeMissed now = { q with
      dgv := (q.wakeMissed now).dgv, counters := (q.wakeMissed now).counters, flags := (q.wakeMissed now).flags } := by
    rw [Port.wakeMissed_eq, Port.failure_frame]
  unfold Port.reportDue
  simp only
  split <;> split
  · rw [missed, lost]
  · exact missed p
  · exact lost p
  · rfl

section
variable {p r q : Port}

/-- What a reset leaves of a port keeps every law, with the failures that are due reported behind it and the slot IDLE
(R9, R152, R168, R169). -/
theorem Port.keeps_reset {first : Bool} {now : Nat} {was : Port} (shed : p.LinkLaw → r.Shed) (cfg : r.cfg = p.cfg)
    (lpe : q.lpe = ((r.resetBlocks now).reportDue first now was).lpe)
    (psc : q.psc = ((r.resetBlocks now).reportDue first now was).psc)
    (adu : q.adu = ((r.resetBlocks now).reportDue first now was).adu)
    (txq : q.txq = ((r.resetBlocks now).reportDue first now was).txq)
    (rx : q.ssp.rx = ((r.resetBlocks now).reportDue first now was).ssp.rx)
    (ingress : r.Shed → ∀ g, q.ssp.ingress = some g → g.route = .ignore)
    (dgv : q.dgv = ((r.resetBlocks now).reportDue first now was).dgv)
    (config : q.cfg = ((r.resetBlocks now).reportDue first now was).cfg) (busy : q.slot.busy = false) :
    p.Keeps q := by
  have frame := Port.reportDue_frame first now (r.resetBlocks now) was
  have calm := Port.calm_reportDue first now was (r.resetBlocks now)
  rw [frame] at lpe psc adu txq rx config
  rw [Port.resetBlocks_eq] at lpe psc adu txq rx config
  have linked (hl : p.LinkLaw) : (r.resetBlocks now).LinkLaw := by
    have h := shed hl
    rw [Port.resetBlocks_eq]
    refine .of_lost ?_ h.psc h.txq rfl h.rx h.adu rfl h.ingress fun he => ?_
    · show (if r.cfg.enable = true then LinkState.restart else .down) ≠ .up
      split <;> decide
    · have he' : r.cfg.enable = false := he
      simp [he']
  refine ⟨fun hl => ?_, fun hl _ => .of_offline (psc.trans (shed hl).psc), fun h => ?_, fun hl _ => ?_⟩
  · have h := shed hl
    have off : q.lpe.link ≠ .up := by rw [lpe]; simp only; split <;> decide
    refine .of_lost off (psc.trans h.psc) (txq.trans h.txq) (by rw [lpe]) (rx.trans h.rx)
      (by rw [adu]; exact h.adu) ?_ (ingress h) fun he => ?_
    · rw [dgv]
      refine (calm.link (linked hl)).restore ?_
      rw [frame, Port.resetBlocks_eq]
      simp only
      split <;> decide
    · rw [config] at he
      simp only at he
      rw [lpe]; simp [he]
  · have governor : (r.resetBlocks now).GovernorLaw := by
      rw [Port.resetBlocks_eq]
      refine ⟨?_, ?_, ?_, le_rfl⟩ <;> simp only [cfg]
      · exact h.range
      · exact h.aging
      · exact PortConfig.threshold_pos h.range
    refine (calm.governor governor).congr ?_ (by rw [dgv]) (by rw [dgv])
    rw [config, frame, Port.resetBlocks_eq]
  · have h := shed hl
    exact .of_empty (txq.trans h.txq) (by rw [lpe]) busy (ingress h)

end

/-! ## PORT_RESET (R168) -/

section
variable {s : State} {n : PortId}

/-- A change of a port that keeps its laws without a change of its cells, its configuration and its demand. -/
theorem State.keeps_modPort_of_keeps {f : Port → Port} (keeps : (s.port n).Keeps (f (s.port n)))
    (queue : (f (s.port n)).txq.queue = (s.port n).txq.queue) (cfg : (f (s.port n)).cfg = (s.port n).cfg)
    (demand : (f (s.port n)).psc.ps.demand = (s.port n).psc.ps.demand) : s.Keeps (s.modPort n f) :=
  State.keeps_modPort ⟨⟨keeps, by rw [queue], cfg⟩, demand⟩

/-- What PORT_RESET does to port n behind the loss of its link (R168). -/
def State.resetEnd (s : State) (n : PortId) (p : Port) : Port :=
  ((p.resetBlocks s.now).reportDue (Config.failureFirst s.draws n) s.now (s.port n)).done .portReset

/-- PORT_RESET, in full: the loss of an UP link with its grants, then the blocks of the port (R168). -/
theorem State.portReset_eq (n : PortId) (s : State) :
    s.portReset n =
      if (s.port n).lpe.link = .up then
        (((s.modPort n Port.dropFlush).loseLink n true).modPort n (s.resetEnd n)).drawn
      else (s.modPort n fun p => s.resetEnd n p.dropFlush).drawn := by
  have link : (s.port n).dropFlush.lpe.link = (s.port n).lpe.link := rfl
  unfold State.portReset State.resetPort
  simp only [State.port_modPort_same, State.modPort_modPort, link]
  split
  · rw [(same_loseLink ..).1]; rfl
  · rw [State.modPort_modPort]; rfl

theorem State.keeps_drawn (s : State) : s.Keeps s.drawn := .of_calm fun _ => .refl _

theorem State.keeps_portReset (n : PortId) (s : State) : s.Keeps (s.portReset n) := by
  rw [State.portReset_eq]
  have frame (p : Port) := Port.reportDue_frame (Config.failureFirst s.draws n) s.now (p.resetBlocks s.now) (s.port n)
  have ssp (p : Port) : (s.resetEnd n p).ssp = p.ssp := by
    show ((_ : Port).reportDue ..).ssp = _
    rw [frame, Port.resetBlocks_eq]
  have psc (p : Port) : (s.resetEnd n p).psc = p.psc := by
    show ((_ : Port).reportDue ..).psc = _
    rw [frame, Port.resetBlocks_eq]
  have txq (p : Port) : (s.resetEnd n p).txq = p.txq := by
    show ((_ : Port).reportDue ..).txq = _
    rw [frame, Port.resetBlocks_eq]
  have cfg (p : Port) : (s.resetEnd n p).cfg = p.cfg := by
    show ((_ : Port).reportDue ..).cfg = _
    rw [frame, Port.resetBlocks_eq]
  have port {r : Port} (shed : (s.port n).LinkLaw → r.Shed) (config : r.cfg = (s.port n).cfg) :
      (s.port n).Keeps (s.resetEnd n r) :=
    Port.keeps_reset shed config rfl rfl rfl rfl rfl (fun h => by rw [ssp]; exact h.ingress) rfl rfl rfl
  have shed (hl : (s.port n).LinkLaw) := hl.shed_resetLoss
  unfold Port.resetLoss at shed
  split
  · rename_i up
    rw [if_pos up] at shed
    refine .trans (State.keeps_loss (f := Port.dropFlush) (g := s.resetEnd n) rfl rfl ?_ ?_
      (port shed (Port.linkLost_cfg _)) fun hl hq => hq.emptied ?_ ?_) (State.keeps_drawn _)
    · rw [psc, Port.linkLost_psc]; rfl
    · rw [txq, Port.linkLost_txq]
    · rw [cfg, Port.linkLost_cfg]; rfl
    · rw [Port.heldCells, txq, Port.linkLost_txq]; rfl
  · rename_i off
    rw [if_neg off] at shed
    refine .trans (State.keeps_modPort_of_keeps (f := fun p => s.resetEnd n p.dropFlush) (port shed rfl) ?_ ?_ ?_)
      (State.keeps_drawn _)
    · rw [txq]; rfl
    · rw [cfg]; rfl
    · rw [psc]; rfl

end

/-! ## SOFT_RESET (R169) -/

section
variable {s : State}

/-- A reset of a port by SOFT_RESET replaces the port, and touches the free list, the arbiter's queue and its count alone
(R81). -/
theorem State.resetPort_false (n : PortId) (s : State) : ∃ free count queue,
    s.resetPort n false = { s.setPort n ((s.port n).resetLoss.resetBlocks s.now) with
      wba := { s.wba with count := count, queue := queue }, pool := { s.pool with free := free } } := by
  have link : (s.port n).dropFlush.lpe.link = (s.port n).lpe.link := rfl
  unfold State.resetPort Port.resetLoss
  simp only [State.port_modPort_same, link]
  split
  · rw [State.loseLink_eq (f := Port.dropFlush) false rfl]
    simp only [Bool.false_eq_true, if_false]
    split
    · exact ⟨_, _, _, (congrArg (State.modWba Wba.release) (State.unlink_modPort ..)).trans rfl⟩
    · exact ⟨_, _, _, (State.unlink_modPort ..).trans rfl⟩
  · exact ⟨s.pool.free, s.wba.count, s.wba.queue, by rw [State.modPort_modPort]; rfl⟩

theorem State.port_resetPort_false (n m : PortId) (s : State) : (s.resetPort n false).port m =
    if m = n then (s.port n).resetLoss.resetBlocks s.now else s.port m := by
  obtain ⟨free, count, queue, h⟩ := s.resetPort_false n
  rw [h]
  show (s.setPort n _).port m = _
  split
  · subst_vars; exact State.port_setPort_same ..
  · exact State.port_setPort_ne _ (by assumption) _

/-- The ports of a list reset one after another, as by SOFT_RESET (R81, R169). -/
theorem State.resetPorts (l : List PortId) (nodup : l.Nodup) (s : State) : ∃ ports free count queue,
    l.foldl (fun s n => s.resetPort n false) s = { s with
      ports := ports, wba := { s.wba with count := count, queue := queue }, pool := { s.pool with free := free } } ∧
    ∀ m, (l.foldl (fun s n => s.resetPort n false) s).port m =
      if m ∈ l then (s.port m).resetLoss.resetBlocks s.now else s.port m := by
  induction l generalizing s with
  | nil => exact ⟨s.ports, s.pool.free, s.wba.count, s.wba.queue, rfl, fun m => by simp⟩
  | cons n rest ih =>
    obtain ⟨absent, nodup'⟩ := List.nodup_cons.mp nodup
    obtain ⟨free, count, queue, h⟩ := s.resetPort_false n
    have one := fun m => s.port_resetPort_false n m
    obtain ⟨ports', free', count', queue', h', each⟩ := ih nodup' (s.resetPort n false)
    refine ⟨ports', free', count', queue', ?_, fun m => ?_⟩
    · rw [List.foldl_cons, h', h]; rfl
    · rw [List.foldl_cons, each, one, h]
      by_cases hm : m = n
      · subst hm; simp [absent]
      · simp [hm]

/-- What SOFT_RESET leaves of port n (R169). -/
def State.softPort (s : State) (n : PortId) : Port :=
  (((s.port n).resetLoss.resetBlocks s.now).reportDue (Config.failureFirst s.draws n) s.now (s.port n)).afterSoftReset

/-- SOFT_RESET, in full (R81, R123, R169, R180). -/
theorem State.softReset_eq (s : State) : s.softReset = { s with
    ports := Vector.ofFn s.softPort
    draws := s.draws + 1
    wba := { w := s.wba.w, count := 0, queue := [] }
    pool := { s.pool with free := allCells }
    dev := { s.dev with softResetDone := true, flags := 0, budgetExceeded := 0 } } := by
  obtain ⟨ports, free, count, queue, h, each⟩ := s.resetPorts allPorts (by decide)
  simp only [mem_allPorts, if_true] at each
  unfold State.softReset State.softPort
  simp only [State.port_drawn, each]
  rw [h]
  rfl

theorem State.port_softReset (s : State) (n : PortId) : s.softReset.port n = s.softPort n := by
  rw [State.softReset_eq]
  simp [State.port]

theorem Port.keeps_softPort (s : State) (n : PortId) : (s.port n).Keeps (s.softPort n) := by
  refine Port.keeps_reset (p := s.port n) (fun hl => hl.shed_resetLoss) (Port.resetLoss_cfg _) rfl rfl rfl rfl rfl
    (fun _ => ignored_route) rfl rfl rfl

theorem State.softPort_cfg (s : State) (n : PortId) : (s.softPort n).cfg = (s.port n).cfg := by
  show ((_ : Port).reportDue ..).cfg = _
  rw [Port.reportDue_frame, Port.resetBlocks_eq, Port.resetLoss_cfg]

theorem State.softPort_psc {n : PortId} (h : (s.port n).LinkLaw) : (s.softPort n).psc = {} := by
  show ((_ : Port).reportDue ..).psc = _
  rw [Port.reportDue_frame, Port.resetBlocks_eq]
  exact h.shed_resetLoss.psc

theorem State.softPort_txq {n : PortId} (h : (s.port n).LinkLaw) : (s.softPort n).txq = {} := by
  show ((_ : Port).reportDue ..).txq = _
  rw [Port.reportDue_frame, Port.resetBlocks_eq]
  exact h.shed_resetLoss.txq

theorem State.keeps_softReset (s : State) : s.Keeps s.softReset := by
  have port := s.port_softReset
  have wba : s.softReset.wba = { w := s.wba.w, count := 0, queue := [] } := by rw [State.softReset_eq]
  have pool : s.softReset.pool = { s.pool with free := allCells } := by rw [State.softReset_eq]
  have keeps (n : PortId) : (s.port n).Keeps (s.softReset.port n) := port n ▸ Port.keeps_softPort s n
  refine ⟨by rw [State.softReset_eq], fun h n => (keeps n).link (h n), fun hl h n => (keeps n).sleep (hl n) (h n),
    fun h n => (keeps n).governor (h n), fun hl h => h.release (fun n => ?_) (fun n => ?_), fun hl h => ⟨?_, ?_⟩,
    fun hl _ _ h n => (keeps n).queue (hl n) (h n), fun hl h => (State.arbiterLaw_iff _).mpr ⟨⟨?_, ?_, ?_, ?_, ?_, ?_⟩, ?_⟩⟩
  · rw [port, State.softPort_cfg]
  · rw [port, Port.heldCells, State.softPort_txq (hl n)]; exact Nat.zero_le _
  · rw [pool]; exact h.1
  · have empty : (allPorts.flatMap fun n => (s.softReset.port n).txq.queue.flatMap (·.cells)) = [] := by
      simp only [List.flatMap_eq_nil_iff]
      intro n _ d hd
      rw [port, State.softPort_txq (hl n)] at hd
      cases hd
    rw [empty, pool, List.append_nil]
  · rw [wba]; exact h.budget
  · rw [wba]
    refine (List.countP_eq_zero.mpr fun n _ => ?_).symm
    rw [port, State.softPort_psc (hl n)]; decide
  · rw [wba]; exact List.nodup_nil
  · rw [wba]; exact fun e he => by cases he
  · intro n hn
    rw [port, State.softPort_psc (hl n)] at hn
    cases hn
  · rw [wba]; exact .nil
  · rw [wba]; exact .inr rfl

end

end Sys2Proof.Machine
end

section
/-! Every step keeps the laws of the device (Safety.lean), and the state after reset has them: the statements of the section
"Invariants". -/

-- One theorem at a time: their elaboration side by side would each hold a thread and its stack.
set_option Elab.async false

namespace Sys2Proof.Machine

/-! ## The laws at every default (R170) -/

section
variable {s : State}

/-- The ports as they stand first, with the signal that the line presents. -/
def State.AtDefault (s : State) : Prop := ∀ n, ∃ b, s.port n = { lpe := { signal := b } }

theorem State.AtDefault.linked (h : s.AtDefault) : s.Linked := by
  intro n
  obtain ⟨b, hp⟩ := h n
  rw [hp]
  exact .of_lost (by simp) rfl rfl rfl rfl rfl rfl (by simp) fun _ => rfl

theorem State.AtDefault.sleepLaw (h : s.AtDefault) : s.SleepLaw := by
  intro n
  obtain ⟨b, hp⟩ := h n
  exact .of_offline (by rw [hp])

theorem State.AtDefault.governorLaw (h : s.AtDefault) : s.GovernorLaw := by
  intro n
  obtain ⟨b, hp⟩ := h n
  have law : ({} : Port).GovernorLaw := ⟨by decide, by decide, by decide, by decide⟩
  rw [hp]
  exact law.congr

theorem State.AtDefault.queueLaw (h : s.AtDefault) : s.QueueLaw := by
  intro n
  obtain ⟨b, hp⟩ := h n
  rw [hp]
  exact .of_empty rfl rfl rfl (by simp)

theorem State.AtDefault.quotaLaw (h : s.AtDefault) : s.QuotaLaw := by
  have cfg (n : PortId) : (s.port n).cfg = {} := by obtain ⟨b, hp⟩ := h n; rw [hp]
  have queue (n : PortId) : (s.port n).txq.queue = [] := by obtain ⟨b, hp⟩ := h n; rw [hp]
  unfold State.QuotaLaw
  simp only [cfg, queue]
  exact ⟨fun _ => Nat.zero_le _, by decide⟩

theorem State.AtDefault.poolLaw (h : s.AtDefault) (free : s.pool.free = allCells) (data : s.pool.data = []) : s.PoolLaw := by
  have queue (n : PortId) : (s.port n).txq.queue = [] := by obtain ⟨b, hp⟩ := h n; rw [hp]
  refine ⟨by rw [data]; exact ⟨.nil, by simp⟩, ?_⟩
  have empty : (allPorts.flatMap fun n => (s.port n).txq.queue.flatMap (·.cells)) = [] := by
    simp [List.flatMap_eq_nil_iff, queue]
  rw [free, empty, List.append_nil]

theorem State.AtDefault.arbiterLaw (h : s.AtDefault) (wba : s.wba = {}) : s.ArbiterLaw := by
  have ps (n : PortId) : (s.port n).psc.ps = .offline := by obtain ⟨b, hp⟩ := h n; rw [hp]
  refine (State.arbiterLaw_iff _).mpr ⟨⟨?_, ?_, ?_, ?_, ?_, ?_⟩, ?_⟩ <;> rw [wba]
  · exact ⟨by decide, by decide⟩
  · refine (List.countP_eq_zero.mpr fun n _ => ?_).symm
    rw [ps]; decide
  · exact List.nodup_nil
  · exact fun e he => by cases he
  · intro n hn; rw [ps] at hn; cases hn
  · exact .nil
  · exact .inr rfl

end

/-! ## What a step keeps -/

/-- From `s` to `t` every law of Safety.lean is kept, RESETN asserted or not. -/
structure State.Preserves (s t : State) : Prop where
  link : s.LinkLaw → t.LinkLaw
  sleep : s.LinkLaw → s.SleepLaw → t.SleepLaw
  governor : s.GovernorLaw → t.GovernorLaw
  quota : s.LinkLaw → s.QuotaLaw → t.QuotaLaw
  pool : s.LinkLaw → s.PoolLaw → t.PoolLaw
  queue : s.LinkLaw → s.PoolLaw → s.QuotaLaw → s.QueueLaw → t.QueueLaw
  arbiter : s.LinkLaw → s.ArbiterLaw → t.ArbiterLaw

section
variable {s t : State}

/-- A step that keeps the laws of the ports leaves every link DOWN where RESETN is asserted (R170). -/
theorem State.Keeps.preserves (h : s.Keeps t)
    (down : s.resetHeld = true → ∀ n, (s.port n).lpe.link = .down → (t.port n).lpe.link = .down) : s.Preserves t where
  link hl := ⟨h.link hl.1, fun ht n => down (h.held ▸ ht) n (hl.2 (h.held ▸ ht) n)⟩
  sleep hl := h.sleep hl.1
  governor := h.governor
  quota hl := h.quota hl.1
  pool hl := h.pool hl.1
  queue hl := h.queue hl.1
  arbiter hl := h.arbiter hl.1

theorem State.Keeps.preserves_of_released (h : s.Keeps t) (released : s.resetHeld = false) : s.Preserves t :=
  h.preserves fun held => by rw [released] at held; cases held

theorem State.Preserves.refl (s : State) : s.Preserves s := (State.Keeps.refl s).preserves fun _ _ => id

theorem State.Preserves.trans {u : State} (h : s.Preserves t) (k : t.Preserves u) : s.Preserves u where
  link := k.link ∘ h.link
  sleep hl hs := k.sleep (h.link hl) (h.sleep hl hs)
  governor := k.governor ∘ h.governor
  quota hl hq := k.quota (h.link hl) (h.quota hl hq)
  pool hl hp := k.pool (h.link hl) (h.pool hl hp)
  queue hl hp hq hu := k.queue (h.link hl) (h.pool hl hp) (h.quota hl hq) (h.queue hl hp hq hu)
  arbiter hl ha := k.arbiter (h.link hl) (h.arbiter hl ha)

/-- PIN_RESET brings about every law (R170). -/
theorem State.preserves_pinReset (h : execPinReset s = .next t) : s.Preserves t := by
  obtain rfl := Host.Outcome.next.inj h
  have default : State.AtDefault { State.held with
      ports := s.ports.map fun p => ({ lpe := { signal := p.lpe.signal } } : Port), draws := s.draws, pending := s.pending } :=
    fun n => ⟨(s.port n).lpe.signal, by simp [State.port]⟩
  refine ⟨fun _ => ⟨default.linked, fun _ n => ?_⟩, fun _ _ => default.sleepLaw, fun _ => default.governorLaw,
    fun _ _ => default.quotaLaw, fun _ _ => default.poolLaw rfl rfl, fun _ _ _ _ => default.queueLaw,
    fun _ _ => default.arbiterLaw rfl⟩
  obtain ⟨b, hp⟩ := default n
  rw [hp]

/-- RESETN_RELEASE finds every link DOWN (R1, R170). -/
theorem State.preserves_release (h : execResetnRelease s = .next t) : s.Preserves t := by
  unfold execResetnRelease at h
  split at h
  · rename_i held
    obtain rfl := Host.Outcome.next.inj h
    have port (n : PortId) : (({ s with
        resetHeld := false, dev := { s.dev with residency := after s.now Config.residencyTime }
        ports := s.ports.map (Port.enterDown s.now) } : State).port n) = (s.port n).enterDown s.now := by
      simp [State.port]
    have calm (hl : s.LinkLaw) (n : PortId) : (s.port n).Calm ((s.port n).enterDown s.now) :=
      Port.calm_enterDown (by rw [hl.2 held n]; decide)
    refine ⟨fun hl => ⟨fun n => port n ▸ (calm hl n).link (hl.1 n), fun h => by cases h⟩,
      fun hl hs n => port n ▸ (calm hl n).sleep (hl.1 n) (hs n), fun hg n => ?_,
      fun hl hq => hq.congr (fun n => port n ▸ (calm hl n).cells) fun n => port n ▸ (calm hl n).cfg,
      fun hl hp => hp.congr rfl rfl fun n => port n ▸ (calm hl n).cells,
      fun hl _ _ hq n => port n ▸ (calm hl n).queue (hl.1 n) (hq n),
      fun hl ha => ha.congr rfl fun n => port n ▸ (calm hl n).demand⟩
    rw [port, Port.enterDown_frame]
    exact (hg n).congr
  · obtain rfl := Host.Outcome.next.inj h
    exact .refl s

theorem State.preserves_signalPresent {n : PortId} (h : execSignalPresent n s = .next t) : s.Preserves t := by
  unfold execSignalPresent at h
  split at h
  · obtain rfl := Host.Outcome.next.inj h
    exact .refl s
  · split at h
    · obtain rfl := Host.Outcome.next.inj h
      refine (State.keeps_modPort (Port.calm_setSignal ..)).preserves fun _ m hm => ?_
      rw [State.port_modPort]
      split
      · subst_vars; exact hm
      · exact hm
    · rename_i released
      obtain rfl := Host.Outcome.next.inj h
      exact (State.keeps_modPort (Port.calm_signalPresent ..)).preserves_of_released (by simpa using released)

theorem State.preserves_signalLost {n : PortId} (h : execSignalLost n s = .next t) : s.Preserves t := by
  unfold execSignalLost at h
  split at h
  · split at h
    · obtain rfl := Host.Outcome.next.inj h
      refine (State.keeps_modPort (Port.calm_setSignal ..)).preserves fun _ m hm => ?_
      rw [State.port_modPort]
      split
      · subst_vars; exact hm
      · exact hm
    · rename_i released
      obtain rfl := Host.Outcome.next.inj h
      exact (s.keeps_signalLost n).preserves_of_released (by simpa using released)
  · obtain rfl := Host.Outcome.next.inj h
    exact .refl s

/-- A command that is not taken while RESETN is asserted keeps the laws where its effect does. -/
theorem State.preserves_running {f : State → State} (keeps : s.Keeps (f s)) (h : running s f = .next t) :
    s.Preserves t := by
  unfold running at h
  split at h
  · obtain rfl := Host.Outcome.next.inj h
    exact .refl s
  · rename_i released
    obtain rfl := Host.Outcome.next.inj h
    exact keeps.preserves_of_released (by simpa using released)

/-- An expiry keeps the laws where its effect does, at the time base that it reaches. -/
theorem State.keeps_onExpiry {timer : Option Nat} {f : State → State}
    (keeps : ∀ x, timer = some x → (s.reach x).Keeps (f (s.reach x))) : s.Keeps (onExpiry timer f s) := by
  cases timer with
  | none => exact .refl s
  | some x => exact (s.keeps_reach x).trans (keeps x rfl)

/-! ## The host bus -/

theorem State.keeps_accessError (s : State) : s.Keeps s.accessError := s.keeps_modDev _

theorem State.keeps_writeW (value : Word) (s : State) : s.Keeps (s.writeW value) := by
  unfold State.writeW
  split
  · rename_i valid
    refine State.keeps_testGrant (fun _ => .refl _) fun _ ha => ?_
    obtain ⟨-, h2, h3, h4, h5, h6⟩ := ha.entered
    exact ⟨valid, h2, h3, h4, h5, h6⟩
  · exact s.keeps_accessError

theorem State.keeps_writePoolLow (value : Word) (s : State) : s.Keeps (s.writePoolLow value) := .of_calm fun _ => .refl _

theorem State.keeps_clearFlags (loc : FlagLoc) (value : Word) (s : State) : s.Keeps (s.clearFlags loc value) := by
  unfold State.clearFlags
  split
  · exact State.keeps_modPort .of_alike
  · exact s.keeps_modDev _

theorem State.keeps_writeEnables (loc : FlagLoc) (value : Word) (s : State) : s.Keeps (s.writeEnables loc value) := by
  unfold State.writeEnables
  split
  · exact State.keeps_modPort .of_alike
  · exact s.keeps_modDev _

theorem State.keeps_unknownCommand (n : PortId) (s : State) : s.Keeps (s.unknownCommand n) :=
  State.keeps_modPort (Port.calm_refuse ..)

theorem State.keeps_commandWord (n : PortId) (value : Word) (s : State) : s.Keeps (s.commandWord n value) := by
  unfold State.commandWord
  split
  · exact s.keeps_apply n
  · exact s.keeps_forceWake n
  · exact s.keeps_flush n
  · exact s.keeps_sendAdvert n
  · exact s.keeps_restoreCeiling n
  · exact s.keeps_clearCounters n
  · exact s.keeps_portReset n
  · exact s.keeps_unknownCommand n

theorem State.keeps_writeLocation (l : Location) (value : Word) (s : State) : s.Keeps (s.writeLocation l value) := by
  unfold State.writeLocation
  cases l with
  | cfgStaging n i => exact State.keeps_modPort .of_alike
  | laStaging n i => exact State.keeps_modPort (Port.calm_setLa ..)
  | wbudget => exact s.keeps_writeW value
  | poolLow => exact s.keeps_writePoolLow value
  | devFlags => exact s.keeps_clearFlags ..
  | flags n => exact s.keeps_clearFlags ..
  | devFlagEn => exact s.keeps_writeEnables ..
  | flagEn n => exact s.keeps_writeEnables ..
  | cmd n => exact s.keeps_commandWord ..
  | devCmd =>
    simp only
    split
    · exact s.keeps_softReset
    · exact s.keeps_accessError
  | _ => exact s.keeps_accessError

theorem State.keeps_hostWrite (offset : BitVec 12) (lanes : BitVec 4) (value : Word) (s : State) :
    s.Keeps (s.hostWrite offset lanes value) := by
  unfold State.hostWrite
  split
  · split
    · exact s.keeps_writeLocation ..
    · exact s.keeps_accessError
  · exact s.keeps_accessError

theorem State.keeps_hostRead (offset : BitVec 12) (s : State) : s.Keeps (s.hostRead offset) := by
  have read : s.Keeps { s with readData := s.readWord offset } := .of_calm fun _ => .refl _
  unfold State.hostRead
  simp only
  split
  · exact read.trans (State.keeps_accessError _)
  · exact read

theorem State.keeps_residencyDue (s : State) : s.Keeps s.residencyDue := by
  refine .of_calm fun n => ?_
  have port : s.residencyDue.port n = (s.port n).countResidency := by simp [State.residencyDue, State.port]
  rw [port]
  exact Port.calm_countResidency _

/-! ## Every command -/

theorem State.preserves_exec (c : Instr) (h : exec c s = .next t) : s.Preserves t := by
  cases c with
  | pinReset => exact State.preserves_pinReset h
  | resetnRelease => exact State.preserves_release h
  | signalPresent n => exact State.preserves_signalPresent h
  | signalLost n => exact State.preserves_signalLost h
  | acquireTimerExpiry n => exact State.preserves_running (State.keeps_onExpiry fun _ _ => State.keeps_acquireExpiry ..) h
  | restartTimerExpiry n => exact State.preserves_running (State.keeps_onExpiry fun _ _ => State.keeps_restartExpiry ..) h
  | receiveIdl n => exact State.preserves_running (State.keeps_modPort (Port.calm_hearIdl ..)) h
  | receiveDim n => exact State.preserves_running (State.keeps_modPort (Port.calm_hearDim ..)) h
  | receiveOfd n => exact State.preserves_running (State.keeps_hearOfd ..) h
  | receiveOfm n => exact State.preserves_running (State.keeps_hearOfm ..) h
  | receiveRfr n => exact State.preserves_running (State.keeps_modPort (Port.calm_hearRfr ..)) h
  | receiveAlr n => exact State.preserves_running (State.keeps_hearAlr ..) h
  | receiveRdy n => exact State.preserves_running (State.keeps_hearRdy ..) h
  | rxFrameStart n type header => exact State.preserves_running (State.keeps_modPort (Port.calm_hearFrameStart ..)) h
  | rxFrameEnd n ending => exact State.preserves_running (State.keeps_modPort (Port.calm_hearFrameEnd ..)) h
  | rxDataByte n byte => exact State.preserves_running (State.keeps_modPort (Port.calm_hearDataByte ..)) h
  | receiveAdvert n frame => exact State.preserves_running (State.keeps_hearAdvert ..) h
  | receiveEcho n frame => exact State.preserves_running (State.keeps_modPort (Port.calm_hearEcho ..)) h
  | sspFrameStart n opening => exact State.preserves_running (State.keeps_frameStart ..) h
  | sspFrameEnd n closing => exact State.preserves_running (State.keeps_frameEnd ..) h
  | ingressByteArrival n byte => exact State.preserves_running (State.keeps_ingressByte ..) h
  | transmissionCompletion n => exact State.preserves_running (State.keeps_txComplete ..) h
  | releaseEvent n => exact State.preserves_running (State.keeps_onExpiry fun _ _ => State.keeps_releaseDue ..) h
  | idleTimerExpiry n => exact State.preserves_running (State.keeps_onExpiry fun _ _ => State.keeps_idleExpiry ..) h
  | deepTimerExpiry n => exact State.preserves_running (State.keeps_onExpiry fun _ _ => State.keeps_deepExpiry ..) h
  | offerTimerExpiry n => exact State.preserves_running (State.keeps_onExpiry fun _ _ => State.keeps_offerExpiry ..) h
  | dormantTimerExpiry n => exact State.preserves_running (State.keeps_onExpiry fun _ _ => State.keeps_dormantExpiry ..) h
  | refreshSendExpiry n =>
    exact State.preserves_running
      (State.keeps_onExpiry (f := fun s => s.modPort n (Port.refreshSendDue s.now)) fun _ _ =>
        State.keeps_modPort (Port.calm_refreshSendDue ..)) h
  | refreshWatchExpiry n =>
    exact State.preserves_running (State.keeps_onExpiry fun x hx => State.keeps_refreshLost (by simp [hx])) h
  | offerRecordLapse n =>
    exact State.preserves_running (State.keeps_onExpiry fun _ _ => State.keeps_modPort (Port.calm_setOffer_none _)) h
  | selfTimerExpiry n => exact State.preserves_running (State.keeps_onExpiry fun _ _ => State.keeps_selfExpiry ..) h
  | waitTimerExpiry n => exact State.preserves_running (State.keeps_onExpiry fun _ _ => State.keeps_waitExpiry ..) h
  | deadlineTimerExpiry n => exact State.preserves_running (State.keeps_onExpiry fun _ _ => State.keeps_wakeFailed ..) h
  | revivalTimerExpiry n =>
    refine State.preserves_running (State.keeps_onExpiry fun x hx => State.keeps_modPort (Port.calm_revived fun e => ?_)) h
    rw [State.port_reach] at e
    rw [e] at hx
    cases hx
  | grant => exact State.preserves_running s.keeps_test h
  | echoTimerExpiry n => exact State.preserves_running (State.keeps_onExpiry fun _ _ => State.keeps_echoExpiry ..) h
  | agingExpiry n =>
    exact State.preserves_running (State.keeps_onExpiry fun x hx => State.keeps_agingDue (by simp [hx])) h
  | urgencyAgeExpiry n => exact State.preserves_running (State.keeps_onExpiry fun _ _ => State.keeps_urgencyDue ..) h
  | flushRemoval n =>
    refine State.preserves_running (State.keeps_onExpiry fun x hx => State.keeps_flushDue fun e => ?_) h
    rw [State.port_reach] at e
    rw [e] at hx
    cases hx
  | restoreTimerExpiry n =>
    refine State.preserves_running (State.keeps_onExpiry (timer := (s.port n).dgv.restore)
      (f := fun s => s.modPort n (Port.restoreDue s.now)) fun x hx => State.keeps_modPort (Port.calm_restoreDue ?_)) h
    rw [State.port_reach, hx]
    exact Option.some_ne_none x
  | residencyTimerExpiry => exact State.preserves_running (State.keeps_onExpiry fun _ _ => State.keeps_residencyDue _) h
  | apply n => exact State.preserves_running (State.keeps_apply ..) h
  | forceWake n => exact State.preserves_running (State.keeps_forceWake ..) h
  | flush n => exact State.preserves_running (State.keeps_flush ..) h
  | sendAdvert n => exact State.preserves_running (State.keeps_sendAdvert ..) h
  | restoreCeiling n => exact State.preserves_running (State.keeps_restoreCeiling ..) h
  | clearCounters n => exact State.preserves_running (State.keeps_clearCounters ..) h
  | portReset n => exact State.preserves_running (State.keeps_portReset ..) h
  | unknownCommand n => exact State.preserves_running (State.keeps_unknownCommand ..) h
  | softReset => exact State.preserves_running s.keeps_softReset h
  | devCmdInvalid => exact State.preserves_running s.keeps_accessError h
  | writeW value => exact State.preserves_running (State.keeps_writeW ..) h
  | writePoolLow value => exact State.preserves_running (State.keeps_writePoolLow ..) h
  | flagClearWrite loc value => exact State.preserves_running (State.keeps_clearFlags ..) h
  | enableWrite loc value => exact State.preserves_running (State.keeps_writeEnables ..) h
  | registerWrite offset value => exact State.preserves_running (State.keeps_hostWrite ..) h
  | faultyAccess access =>
    cases access with
    | read offset => exact State.preserves_running (State.keeps_hostRead ..) h
    | write offset lanes value => exact State.preserves_running (State.keeps_hostWrite ..) h

/-- The passing of time moves the time base, the queue of commands and the draws alone (log entries 2 and 3). -/
theorem State.tick_frame (s : State) : ∃ now pending draws,
    s.tick = { s with now := now, pending := pending, draws := draws } := by
  have enqueued (u : State) : ∃ pending draws, u.enqueueDue = { u with pending := pending, draws := draws } := by
    unfold State.enqueueDue
    split <;> exact ⟨_, _, rfl⟩
  unfold State.tick
  split
  · exact ⟨_, _, _, rfl⟩
  · split
    · obtain ⟨pending, draws, h⟩ := enqueued { s with now := s.now + 1 }
      exact ⟨_, pending, draws, h⟩
    · obtain ⟨pending, draws, h⟩ := enqueued s
      exact ⟨_, pending, draws, h⟩

theorem State.preserves_step (h : step s = .next t) : s.Preserves t := by
  unfold step at h
  split at h
  · obtain rfl := Host.Outcome.next.inj h
    obtain ⟨now, pending, draws, hs⟩ := s.tick_frame
    rw [hs]
    exact State.Keeps.preserves (.of_calm fun _ => .refl _) fun _ _ => id
  · rename_i c rest _
    have taken : s.Preserves { s with pending := rest } :=
      State.Keeps.preserves (.of_calm fun _ => .refl _) fun _ _ => id
    exact taken.trans (State.preserves_exec c h)

end

/-! ## The obligations -/

/-- Settles O56, from what every command keeps (`State.preserves_step`). -/
theorem stepKeepsLinkLaw : Obligations.StepKeepsLinkLaw :=
  fun _ _ hl h => (State.preserves_step h).link hl

/-- Settles O57, from what every command keeps (`State.preserves_step`). -/
theorem stepKeepsSleepLaw : Obligations.StepKeepsSleepLaw :=
  fun _ _ hl hs h => (State.preserves_step h).sleep hl hs

/-- Settles O58, from what every command keeps (`State.preserves_step`). -/
theorem stepKeepsGovernorAndQuotaLaws : Obligations.StepKeepsGovernorAndQuotaLaws :=
  fun _ _ h => ⟨(State.preserves_step h).governor, fun hl _ => (State.preserves_step h).quota hl⟩

/-- Settles O59, from what every command keeps (`State.preserves_step`). -/
theorem stepKeepsQueueAndPoolLaws : Obligations.StepKeepsQueueAndPoolLaws :=
  fun _ _ hl h => ⟨(State.preserves_step h).queue hl, (State.preserves_step h).pool hl⟩

/-- Settles O60, from what every command keeps (`State.preserves_step`). -/
theorem stepKeepsArbiterLaw : Obligations.StepKeepsArbiterLaw :=
  fun _ _ hl ha h => (State.preserves_step h).arbiter hl ha

/-- Settles O55: after reset every port stands at its default (`State.AtDefault`). -/
theorem resetKeepsLaws : Obligations.ResetKeepsLaws := by
  have default : State.reset.AtDefault := fun n => ⟨false, by simp [State.port, State.reset]⟩
  exact ⟨⟨default.linked, fun h => by cases h⟩, default.sleepLaw, default.governorLaw, default.queueLaw,
    default.poolLaw rfl rfl, default.quotaLaw, default.arbiterLaw rfl⟩

end Sys2Proof.Machine
end

section
/-! The queue of commands and the time base (About this Guide, "Time base"; log entries 2, 3, 6 and 14). -/

-- One theorem at a time: their elaboration side by side would each hold a thread and its stack.
set_option Elab.async false

namespace Sys2Proof.Machine

/-! ## How a command is taken -/

section
variable {c : Instr} {s : State} {f g : State → State} {timer : Option Nat} {x : Nat}

/-- A command of a device out of reset has its effect. -/
theorem exec_of_released (taken : exec c s = running s f) (released : s.resetHeld = false) : exec c s = .next (f s) :=
  taken.trans (running_of_released released f)

/-- While RESETN is asserted a command is not taken (R170; log entry 14). -/
theorem exec_of_held (taken : exec c s = running s f) (held : s.resetHeld = true) : exec c s = .next s := by
  rw [taken, running, if_pos held]

/-- The expiry of a running timer, out of reset, has its effect at the time base it reaches. -/
theorem exec_of_expiry (taken : exec c s = running s g) (expiry : g s = onExpiry timer f s) (running_ : timer = some x)
    (released : s.resetHeld = false) : exec c s = .next (f (s.reach x)) := by
  rw [exec_of_released taken released, expiry, onExpiry_of_running running_]

/-- The expiry of a stopped timer changes nothing (log entry 2). -/
theorem exec_of_stopped (taken : exec c s = running s g) (expiry : g s = onExpiry timer f s) (stopped : timer = none) :
    exec c s = .next s := by
  rw [taken, running]
  split
  · rfl
  · rw [expiry, stopped, onExpiry]

end

/-- Settles O1, from the definition of a step. -/
theorem stepRunsFrontCommand : Obligations.StepRunsFrontCommand := by
  intro c rest s h
  rw [step, h]

/-! ## An idle step -/

section
variable {s : State}

/-- Where expiries are due, one of them is queued (log entry 3). -/
theorem State.enqueueDue_of_due (due : s.due ≠ []) (idle : s.pending = []) :
    ∃ c ∈ s.due, ∃ draws, s.enqueueDue = { s with pending := [c], draws := draws } := by
  unfold State.enqueueDue
  split
  · exact absurd (by assumption) due
  · rename_i c h
    exact ⟨c, by simp [h], s.draws, by rw [idle]; rfl⟩
  · have hi : Config.tieBreak s.draws % s.due.length < s.due.length :=
      Nat.mod_lt _ (List.length_pos_iff.mpr due)
    refine ⟨s.due[Config.tieBreak s.draws % s.due.length], List.getElem_mem hi, s.draws + 1, ?_⟩
    rw [idle, List.getElem?_eq_getElem hi]
    rfl

theorem State.enqueueDue_of_none (due : s.due = []) : s.enqueueDue = s := by
  rw [State.enqueueDue, due]

/-- What is due stays due as time passes. -/
theorem State.due_eq_nil_of_later (later : ({ s with now := s.now + 1 } : State).due = []) : s.due = [] := by
  have timers : ({ s with now := s.now + 1 } : State).timers = s.timers := rfl
  unfold State.due at later ⊢
  rw [timers] at later
  rw [List.map_eq_nil_iff, List.filter_eq_nil_iff] at later ⊢
  intro t ht due
  obtain ⟨x, hx, hle⟩ := (isDue_iff ..).mp due
  exact later t ht ((isDue_iff ..).mpr ⟨x, hx, Nat.le_succ_of_le hle⟩)

end

/-- Settles O2: an idle step is the passing of time, which queues one of the expiries that are due
(`State.enqueueDue_of_due`), now or 1 µs on. -/
theorem idleStepPassesTime : Obligations.IdleStepPassesTime := by
  intro s idle
  have step_eq : step s = .next s.tick := by rw [step, idle]
  have ticks (released : s.resetHeld = false) (due : s.due = []) :
      s.tick = ({ s with now := s.now + 1 } : State).enqueueDue := by
    rw [State.tick, released, due]; rfl
  rw [step_eq]
  refine ⟨fun held => ?held, fun released due => ?due, fun released none_ later => ?later, fun released later => ?none⟩
  case held => rw [State.tick, if_pos held]
  case due =>
    obtain ⟨c, hc, draws, h⟩ := State.enqueueDue_of_due due idle
    refine ⟨c, hc, draws, ?_⟩
    rw [← h, State.tick, released]
    cases hd : s.due with
    | nil => exact absurd hd due
    | cons _ _ => rfl
  case later =>
    obtain ⟨c, hc, draws, h⟩ := State.enqueueDue_of_due later idle
    exact ⟨c, hc, draws, by rw [ticks released none_, h]⟩
  case none => rw [ticks released (State.due_eq_nil_of_later later), State.enqueueDue_of_none later]

/-! ## Commands that find nothing to act on -/

/-- A timer of a port is one of the device's. -/
theorem State.mem_timers {s : State} {n : PortId} {t : Option Nat × Instr} (h : t ∈ (s.port n).timers n) :
    t ∈ s.timers :=
  List.mem_append_left _ (List.mem_flatMap.mpr ⟨n, mem_allPorts n, h⟩)

/-- Settles O4: a command that is not taken (`exec_of_held`), and an expiry whose timer is stopped (`exec_of_stopped`). -/
theorem nothingTakenWhileHeldOrStopped : Obligations.NothingTakenWhileHeldOrStopped := by
  intro c s
  refine ⟨fun held pin release present lost => ?_, fun stopped => ?_⟩
  · cases c with
    | pinReset => exact absurd rfl pin
    | resetnRelease => exact absurd rfl release
    | signalPresent n => exact absurd rfl (present n)
    | signalLost n => exact absurd rfl (lost n)
    | faultyAccess access =>
      cases access with
      | read offset => exact exec_of_held (f := State.hostRead offset) rfl held
      | write offset lanes value => exact exec_of_held (f := State.hostWrite offset lanes value) rfl held
    | _ => exact exec_of_held rfl held
  · rcases List.mem_append.mp stopped with port | device
    · obtain ⟨n, -, h⟩ := List.mem_flatMap.mp port
      simp only [Port.timers, List.mem_cons, List.not_mem_nil, or_false, Prod.mk.injEq] at h
      rcases h with ⟨none_, rfl⟩ | ⟨none_, rfl⟩ | ⟨none_, rfl⟩ | ⟨none_, rfl⟩ | ⟨none_, rfl⟩ | ⟨none_, rfl⟩ | ⟨none_, rfl⟩ |
        ⟨none_, rfl⟩ | ⟨none_, rfl⟩ | ⟨none_, rfl⟩ | ⟨none_, rfl⟩ | ⟨none_, rfl⟩ | ⟨none_, rfl⟩ | ⟨none_, rfl⟩ |
        ⟨none_, rfl⟩ | ⟨none_, rfl⟩ | ⟨none_, rfl⟩ | ⟨none_, rfl⟩ | ⟨none_, rfl⟩ <;>
        exact exec_of_stopped rfl rfl none_.symm
    · obtain ⟨none_, rfl⟩ := Prod.mk.inj (List.mem_singleton.mp device)
      exact exec_of_stopped rfl rfl none_.symm

end Sys2Proof.Machine
end

section
/-! What no command touches: the queue of commands, and but for a pin reset and an expiry the time base (About this Guide, "Time
base"; log entries 2, 6 and 24). -/

-- One theorem at a time: their elaboration side by side would each hold a thread and its stack.
set_option Elab.async false

namespace Sys2Proof.Machine

section
variable {s t : State} {n : PortId}

/-! ## Operations that leave the time base, the draws and the queue of commands -/

/-- A change of one port and what follows it. -/
theorem Same.modPort_trans {f : Port → Port} (h : Same (s.modPort n f) t) : Same s t := .trans (same_modPort n f s) h

theorem same_ite {p : Prop} [Decidable p] {u : State} (h : Same s t) (k : Same s u) : Same s (if p then t else u) := by
  split
  · exact h
  · exact k

theorem same_afterRemoval (n : PortId) (s : State) : Same s (s.afterRemoval n) :=
  .trans (same_withdrawCheck ..) (same_settle ..)

theorem same_afterPending (n : PortId) (s : State) : Same s (s.afterPending n) :=
  .trans (same_wakeCheck ..) (same_settle ..)

theorem same_endWake (n : PortId) (s : State) : Same s (s.endWake n) := .modPort_trans (same_settle ..)

theorem same_endWakeRdy (n : PortId) (s : State) : Same s (s.endWakeRdy n) := .modPort_trans (same_endWake ..)

theorem same_restartOrder (n : PortId) (s : State) : Same s (s.restartOrder n) :=
  same_ite (.modPort_trans (same_loseLink ..)) (.refl s)

theorem same_accessError (s : State) : Same s s.accessError := same_modDev ..

/-! ## The link -/

theorem same_acquireExpiry (n : PortId) (s : State) : Same s (s.acquireExpiry n) :=
  .modPort_trans (same_ite (.modPort_trans (same_settle ..)) (.refl _))

theorem same_restartExpiry (n : PortId) (s : State) : Same s (s.restartExpiry n) :=
  .modPort_trans (same_ite (same_modPort ..) (.refl _))

theorem same_signalLost (n : PortId) (s : State) : Same s (s.signalLost n) := by
  unfold State.signalLost
  refine .modPort_trans (n := n) (f := Port.setSignal false) ?_
  simp only
  split
  · exact same_modPort ..
  · exact same_ite (.modPort_trans (same_loseLink ..)) (.refl _)
  · exact .refl _
  · exact .refl _

theorem same_refreshLost (n : PortId) (s : State) : Same s (s.refreshLost n) := .modPort_trans (same_restartOrder ..)

theorem same_wakeFailed (n : PortId) (s : State) : Same s (s.wakeFailed n) := by
  unfold State.wakeFailed
  split
  · exact .modPort_trans (same_restartOrder ..)
  · exact .refl s

/-! ## Control words and management frames -/

theorem same_enterDeep (n : PortId) (s : State) : Same s (s.enterDeep n) := .modPort_trans (same_wakeCheck ..)

theorem same_enterDormant (n : PortId) (s : State) : Same s (s.enterDormant n) := .modPort_trans (same_wakeCheck ..)

theorem same_hearOfd (n : PortId) (s : State) : Same s (s.hearOfd n) := by
  refine same_ite ?_ (.refl s)
  split
  · exact same_modPort ..
  · exact same_ite (.modPort_trans (same_enterDeep ..)) (same_modPort ..)
  · exact same_enterDeep ..
  all_goals exact .refl s

theorem same_takeOfm (n : PortId) (s : State) : Same s (s.takeOfm n) := by
  unfold State.takeOfm
  split
  · exact same_ite (.modPort_trans (same_enterDormant ..)) (same_modPort ..)
  · exact same_enterDormant ..
  · split
    · exact same_modPort ..
    · exact .refl s
  all_goals exact .refl s

theorem same_hearOfm (n : PortId) (s : State) : Same s (s.hearOfm n) := by
  refine same_ite ?_ (.refl s)
  split
  · exact same_modPort ..
  · exact same_takeOfm ..
  all_goals exact .refl s

theorem same_takeAlr (n : PortId) (s : State) : Same s (s.takeAlr n) := by
  refine .modPort_trans (n := n) (f := Port.setOffer none) ?_
  unfold State.takeAlr
  simp only
  split
  · exact same_modPort ..
  · exact same_modPort ..
  · exact same_modPort ..
  · unfold State.alrWhileWaking
    split
    · exact .refl _
    · split
      · exact same_modPort ..
      · exact same_endWakeRdy ..
  · exact same_partnerWake ..
  · exact same_partnerWake ..
  · exact same_partnerWake ..
  · exact same_partnerWake ..
  · exact .refl _

theorem same_hearAlr (n : PortId) (s : State) : Same s (s.hearAlr n) := same_ite (same_takeAlr n s) (.refl s)

theorem same_hearRdy (n : PortId) (s : State) : Same s (s.hearRdy n) := by
  refine same_ite ?_ (.refl s)
  split
  · exact same_ite (.modPort_trans (same_ite (same_endWake ..) (.refl _))) (.refl s)
  · exact .refl s

theorem same_hearAdvert (n : PortId) (frame : MgmtFrame) (s : State) : Same s (s.hearAdvert n frame) := by
  refine same_ite (.modPort_trans (n := n) (f := Port.endManagement) ?_) (.refl s)
  split
  · exact same_modPort ..
  · exact same_ite (.modPort_trans (same_afterPending ..)) (same_modPort ..)

theorem same_echoExpiry (n : PortId) (s : State) : Same s (s.echoExpiry n) :=
  .modPort_trans (same_ite (same_ite (.modPort_trans (same_afterPending ..)) (same_modPort ..)) (.refl _))

/-! ## Frames of the system stream port and of the line -/

theorem same_abortFilling (n : PortId) (s : State) : Same s (s.abortFilling n) := by
  unfold State.abortFilling
  split
  · exact .trans (same_removeAt ..) (same_afterRemoval ..)
  · exact .refl s

theorem same_endEarlier (n : PortId) (s : State) : Same s (s.endEarlier n) := by
  unfold State.endEarlier
  split
  · exact .refl s
  · split
    · exact same_abortFilling ..
    · exact same_modPort ..
    · exact .refl s

theorem same_frameStart (n : PortId) (opening : Word) (s : State) : Same s (s.frameStart n opening) := by
  refine .trans (same_endEarlier n s) ?_
  refine same_ite (same_modPort ..) (same_ite (same_modPort ..) (same_ite (same_modPort ..) (same_ite (same_modPort ..) ?_)))
  exact .modPort_trans (same_admit ..)

theorem same_frameEnd (n : PortId) (closing : Word) (s : State) : Same s (s.frameEnd n closing) := by
  unfold State.frameEnd
  split
  · exact .refl s
  · simp only
    split
    · exact same_modPort ..
    · refine same_ite (.trans (same_abortFilling ..) (same_modPort ..)) ?_
      split
      · exact .modPort_trans (same_settle ..)
      · exact same_modPort ..
    · exact same_modPort ..

theorem same_ingressByte (n : PortId) (b : Byte) (s : State) : Same s (s.ingressByte n b) := by
  unfold State.ingressByte
  split
  · exact .refl s
  · refine same_ite (same_modPort ..) ?_
    split
    · exact same_modPort ..
    · exact .modPort_trans (same_modPort ..)
    · split
      · exact .modPort_trans (same_modPool ..)
      · exact same_modPort ..

theorem same_completeHead (n : PortId) (s : State) : Same s (s.completeHead n) := by
  unfold State.completeHead
  split
  · exact .refl s
  · exact same_ite (.modPort_trans (.trans (same_modPool ..) (same_newHead ..))) (.refl s)

theorem same_txComplete (n : PortId) (s : State) : Same s (s.txComplete n) := by
  unfold State.txComplete
  split
  · exact .refl s
  · split
    · exact .modPort_trans (.trans (same_completeHead ..) (same_settle ..))
    · exact .refl s
    all_goals exact .modPort_trans (same_settle ..)

/-! ## The timers -/

theorem same_idleExpiry (n : PortId) (s : State) : Same s (s.idleExpiry n) :=
  .modPort_trans (same_ite
    (same_ite (.modPort_trans (same_ite (.modPort_trans (same_enterDeep ..)) (same_wakeCheck ..))) (same_modPort ..))
    (.refl _))

theorem same_deepExpiry (n : PortId) (s : State) : Same s (s.deepExpiry n) :=
  .modPort_trans (same_ite (same_ite (.modPort_trans (same_wakeCheck ..)) (same_modPort ..)) (.refl _))

theorem same_offerExpiry (n : PortId) (s : State) : Same s (s.offerExpiry n) := by
  refine .modPort_trans (n := n) (f := fun p => { p with psc := { p.psc with offerTimer := none } }) ?_
  unfold State.offerExpiry
  simp only
  split
  · exact .modPort_trans (same_wakeCheck ..)
  · exact .modPort_trans (same_wakeCheck ..)
  · exact .refl _

theorem same_dormantExpiry (n : PortId) (s : State) : Same s (s.dormantExpiry n) :=
  .modPort_trans (same_ite (same_ite
    (.modPort_trans (same_ite (same_enterDormant ..) (.modPort_trans (same_wakeCheck ..)))) (same_modPort ..)) (.refl _))

theorem same_selfEnd (n : PortId) (w : WakeRecord) (s : State) : Same s (s.selfEnd n w) := by
  unfold State.selfEnd
  split
  · exact same_endWakeRdy ..
  · have receiver : Same s (if w.selfDepth = .dim then s.modPort n Port.wakeReceiver else s) :=
      same_ite (same_modPort ..) (.refl s)
    exact receiver.trans (same_ite (same_endWakeRdy ..) (same_modPort ..))

theorem same_selfExpiry (n : PortId) (s : State) : Same s (s.selfExpiry n) := by
  unfold State.selfExpiry
  split
  · rename_i w _
    have unit : Same s (if (s.port n).psc.ps.holdsUnit then s.releaseUnit else s) := same_ite (same_releaseUnit s) (.refl s)
    exact unit.trans (same_selfEnd n w _)
  · exact .refl s

theorem same_waitExpiry (n : PortId) (s : State) : Same s (s.waitExpiry n) := by
  unfold State.waitExpiry
  split
  · exact .modPort_trans (same_ite (same_endWake ..) (.refl _))
  · exact .refl s

theorem same_agingLoop (n : PortId) (k : Nat) (s : State) : Same s (agingLoop n k s) := by
  induction k generalizing s with
  | zero => exact .refl s
  | succ k ih =>
    rw [agingLoop]
    split
    · exact same_ite (.trans (.trans (same_removeAt ..) (same_afterRemoval ..)) (ih _)) (.refl s)
    · exact .refl s

theorem same_agingDue (n : PortId) (s : State) : Same s (s.agingDue n) :=
  same_ite (same_modPort ..) (same_agingLoop ..)

theorem same_flushDue (n : PortId) (s : State) : Same s (s.flushDue n) := by
  unfold State.flushDue
  refine .modPort_trans (n := n) (f := Port.scheduleRemoval s.now) ?_
  simp only
  split
  · exact .trans (same_removeAt ..) (same_afterRemoval ..)
  · exact same_modPort ..

/-! ## The commands of the host -/

theorem same_slotCommand {c : SlotCommand} {refusal : Option Reason} {effect : State → State}
    (h : Same s (effect s)) : Same s (s.slotCommand n c refusal effect) := by
  refine same_ite (same_modPort ..) ?_
  split
  · exact same_modPort ..
  · exact .trans h (same_modPort ..)

theorem same_applyEffect (n : PortId) (s : State) : Same s (s.applyEffect n) := by
  unfold State.applyEffect
  refine .modPort_trans (n := n) (f := Port.takeStaging) ?_
  simp only
  split
  · exact same_ite (.modPort_trans (same_loseLink ..)) (same_modPort ..)
  · exact same_modPort ..
  · exact .refl _
  · exact .refl _

theorem same_forceEffect (n : PortId) (s : State) : Same s (s.forceEffect n) :=
  same_ite (.refl s) (.modPort_trans (same_ite (same_promoteCheck ..) (same_wakeCheck ..)))

theorem same_sendEffect (n : PortId) (s : State) : Same s (s.sendEffect n) :=
  .modPort_trans (same_ite (.refl _) (.modPort_trans (same_afterPending ..)))

theorem same_flush (n : PortId) (s : State) : Same s (s.flush n) :=
  same_ite (same_modPort ..) (same_ite (same_modPort ..) (same_modPort ..))

theorem same_writeW (value : Word) (s : State) : Same s (s.writeW value) :=
  same_ite (.trans (same_modWba ..) (same_testGrant _)) (same_accessError s)

theorem same_clearFlags (loc : FlagLoc) (value : Word) (s : State) : Same s (s.clearFlags loc value) := by
  unfold State.clearFlags
  split
  · exact same_modPort ..
  · exact same_modDev ..

theorem same_writeEnables (loc : FlagLoc) (value : Word) (s : State) : Same s (s.writeEnables loc value) := by
  unfold State.writeEnables
  split
  · exact same_modPort ..
  · exact same_modDev ..

/-! ## Every command is answered -/

/-- A command leaves the time base and the queue of commands, and takes at most one number of the free values. -/
structure State.Answers (s t : State) : Prop where
  pending : t.pending = s.pending
  draws : t.draws = s.draws ∨ t.draws = s.draws + 1
  now : t.now = s.now

theorem Same.answers (h : Same s t) : s.Answers t := by
  obtain ⟨now, -, -, draws, pending⟩ := h
  exact ⟨pending, .inl draws, now⟩

theorem State.answers_portReset (n : PortId) (s : State) : s.Answers (s.portReset n) := by
  obtain ⟨now, -, -, draws, pending⟩ := same_resetPort n true s
  exact ⟨pending, .inr (congrArg (· + 1) draws), now⟩

theorem State.answers_softReset (s : State) : s.Answers s.softReset := by
  rw [State.softReset_eq]
  exact ⟨rfl, .inr rfl, rfl⟩

theorem State.answers_commandWord (n : PortId) (value : Word) (s : State) : s.Answers (s.commandWord n value) := by
  unfold State.commandWord
  split
  · exact (same_slotCommand (same_applyEffect n s)).answers
  · exact (same_slotCommand (same_forceEffect n s)).answers
  · exact (same_flush n s).answers
  · exact (same_slotCommand (same_sendEffect n s)).answers
  · exact (same_slotCommand (same_modPort n _ s)).answers
  · exact (same_slotCommand (same_modPort n _ s)).answers
  · exact s.answers_portReset n
  · exact (same_modPort n _ s).answers

theorem State.answers_writeLocation (l : Location) (value : Word) (s : State) : s.Answers (s.writeLocation l value) := by
  unfold State.writeLocation
  cases l with
  | cfgStaging n i => exact (same_modPort n _ s).answers
  | laStaging n i => exact (same_modPort n _ s).answers
  | wbudget => exact (same_writeW value s).answers
  | poolLow => exact (same_modPool _ s).answers
  | devFlags => exact (same_clearFlags ..).answers
  | flags n => exact (same_clearFlags ..).answers
  | devFlagEn => exact (same_writeEnables ..).answers
  | flagEn n => exact (same_writeEnables ..).answers
  | cmd n => exact s.answers_commandWord ..
  | devCmd =>
    simp only
    split
    · exact s.answers_softReset
    · exact (same_accessError s).answers
  | _ => exact (same_accessError s).answers

theorem State.answers_hostWrite (offset : BitVec 12) (lanes : BitVec 4) (value : Word) (s : State) :
    s.Answers (s.hostWrite offset lanes value) := by
  unfold State.hostWrite
  split
  · split
    · exact s.answers_writeLocation ..
    · exact (same_accessError s).answers
  · exact (same_accessError s).answers

theorem State.answers_hostRead (offset : BitVec 12) (s : State) : s.Answers (s.hostRead offset) := by
  unfold State.hostRead
  simp only
  split
  · obtain ⟨now, -, -, draws, pending⟩ := same_accessError { s with readData := s.readWord offset }
    exact ⟨pending, .inl draws, now⟩
  · exact ⟨rfl, .inl rfl, rfl⟩

/-- What O3 says of one command. -/
def Answered (c : Instr) (s : State) : Prop :=
  ∃ t, exec c s = .next t ∧ t.pending = s.pending ∧ (t.draws = s.draws ∨ t.draws = s.draws + 1) ∧
    (c = .pinReset ∨ t.now = s.now ∨ ∃ x, (some x, c) ∈ s.timers ∧ t.now = max s.now x)

variable {c : Instr} {f g : State → State} {timer : Option Nat}

theorem State.Answers.answered (h : s.Answers t) (next : exec c s = .next t) : Answered c s :=
  ⟨t, next, h.pending, h.draws, .inr (.inl h.now)⟩

theorem answered_of_running (taken : exec c s = running s f) (h : s.Answers (f s)) : Answered c s := by
  cases held : s.resetHeld with
  | true => exact (Same.refl s).answers.answered (exec_of_held taken held)
  | false => exact h.answered (exec_of_released taken held)

/-- An expiry: with its timer running it happens at the timer's value of the time base. -/
theorem answered_of_expiry (taken : exec c s = running s g) (expiry : g s = onExpiry timer f s)
    (own : (timer, c) ∈ s.timers) (h : ∀ u, Same u (f u)) : Answered c s := by
  cases running_ : timer with
  | none => exact (Same.refl s).answers.answered (exec_of_stopped taken expiry running_)
  | some x =>
    cases held : s.resetHeld with
    | true => exact (Same.refl s).answers.answered (exec_of_held taken held)
    | false =>
      obtain ⟨now, -, -, draws, pending⟩ := h (s.reach x)
      exact ⟨_, exec_of_expiry taken expiry running_ held, pending, .inl draws, .inr (.inr ⟨x, running_ ▸ own, now⟩)⟩

end

/-- Settles O3: what each command does keeps the queue of commands and the draws, and an expiry happens at its value of
the time base. -/
theorem everyCommandAnswers : Obligations.EveryCommandAnswers := by
  intro c s
  have own (n : PortId) {t : Option Nat × Instr} (h : t ∈ (s.port n).timers n) : t ∈ s.timers := State.mem_timers h
  cases c with
  | pinReset => exact ⟨_, rfl, rfl, .inl rfl, .inl rfl⟩
  | resetnRelease =>
    cases held : s.resetHeld with
    | true => exact ⟨_, if_pos held, rfl, .inl rfl, .inr (.inl rfl)⟩
    | false => exact (Same.refl s).answers.answered (if_neg (by simp [held]))
  | signalPresent n =>
    suffices h : ∃ t, exec (.signalPresent n) s = .next t ∧ Same s t by
      obtain ⟨t, next, h⟩ := h
      exact h.answers.answered next
    simp only [exec, execSignalPresent]
    split
    · exact ⟨_, rfl, .refl s⟩
    · split <;> exact ⟨_, rfl, same_modPort ..⟩
  | signalLost n =>
    suffices h : ∃ t, exec (.signalLost n) s = .next t ∧ Same s t by
      obtain ⟨t, next, h⟩ := h
      exact h.answers.answered next
    simp only [exec, execSignalLost]
    split
    · split
      · exact ⟨_, rfl, same_modPort ..⟩
      · exact ⟨_, rfl, same_signalLost n s⟩
    · exact ⟨_, rfl, .refl s⟩
  | acquireTimerExpiry n => exact answered_of_expiry rfl rfl (own n (by simp [Port.timers])) (same_acquireExpiry n)
  | restartTimerExpiry n => exact answered_of_expiry rfl rfl (own n (by simp [Port.timers])) (same_restartExpiry n)
  | receiveIdl n => exact answered_of_running rfl (same_modPort n _ s).answers
  | receiveDim n => exact answered_of_running rfl (same_modPort n _ s).answers
  | receiveOfd n => exact answered_of_running rfl (same_hearOfd n s).answers
  | receiveOfm n => exact answered_of_running rfl (same_hearOfm n s).answers
  | receiveRfr n => exact answered_of_running rfl (same_modPort n _ s).answers
  | receiveAlr n => exact answered_of_running rfl (same_hearAlr n s).answers
  | receiveRdy n => exact answered_of_running rfl (same_hearRdy n s).answers
  | rxFrameStart n type header => exact answered_of_running rfl (same_modPort n _ s).answers
  | rxFrameEnd n ending => exact answered_of_running rfl (same_modPort n _ s).answers
  | rxDataByte n byte => exact answered_of_running rfl (same_modPort n _ s).answers
  | receiveAdvert n frame => exact answered_of_running rfl (same_hearAdvert n frame s).answers
  | receiveEcho n frame => exact answered_of_running rfl (same_modPort n _ s).answers
  | sspFrameStart n opening => exact answered_of_running rfl (same_frameStart n opening s).answers
  | sspFrameEnd n closing => exact answered_of_running rfl (same_frameEnd n closing s).answers
  | ingressByteArrival n byte => exact answered_of_running rfl (same_ingressByte n byte s).answers
  | transmissionCompletion n => exact answered_of_running rfl (same_txComplete n s).answers
  | releaseEvent n =>
    exact answered_of_expiry rfl rfl (own n (by simp [Port.timers])) fun u => .modPort_trans (same_settle ..)
  | idleTimerExpiry n => exact answered_of_expiry rfl rfl (own n (by simp [Port.timers])) (same_idleExpiry n)
  | deepTimerExpiry n => exact answered_of_expiry rfl rfl (own n (by simp [Port.timers])) (same_deepExpiry n)
  | offerTimerExpiry n => exact answered_of_expiry rfl rfl (own n (by simp [Port.timers])) (same_offerExpiry n)
  | dormantTimerExpiry n => exact answered_of_expiry rfl rfl (own n (by simp [Port.timers])) (same_dormantExpiry n)
  | refreshSendExpiry n =>
    exact answered_of_expiry (f := fun s => s.modPort n (Port.refreshSendDue s.now)) rfl rfl
      (own n (by simp [Port.timers])) fun u => same_modPort ..
  | refreshWatchExpiry n => exact answered_of_expiry rfl rfl (own n (by simp [Port.timers])) (same_refreshLost n)
  | offerRecordLapse n =>
    exact answered_of_expiry (f := fun s => s.modPort n (Port.setOffer none)) rfl rfl
      (own n (by simp [Port.timers])) fun u => same_modPort ..
  | selfTimerExpiry n => exact answered_of_expiry rfl rfl (own n (by simp [Port.timers])) (same_selfExpiry n)
  | waitTimerExpiry n => exact answered_of_expiry rfl rfl (own n (by simp [Port.timers])) (same_waitExpiry n)
  | deadlineTimerExpiry n => exact answered_of_expiry rfl rfl (own n (by simp [Port.timers])) (same_wakeFailed n)
  | revivalTimerExpiry n =>
    exact answered_of_expiry (f := fun s => s.modPort n Port.revived) rfl rfl
      (own n (by simp [Port.timers])) fun u => same_modPort ..
  | grant => exact answered_of_running rfl (same_testGrant s).answers
  | echoTimerExpiry n => exact answered_of_expiry rfl rfl (own n (by simp [Port.timers])) (same_echoExpiry n)
  | agingExpiry n => exact answered_of_expiry rfl rfl (own n (by simp [Port.timers])) (same_agingDue n)
  | urgencyAgeExpiry n =>
    exact answered_of_expiry rfl rfl (own n (by simp [Port.timers])) fun u => .modPort_trans (same_promoteCheck ..)
  | flushRemoval n => exact answered_of_expiry rfl rfl (own n (by simp [Port.timers])) (same_flushDue n)
  | restoreTimerExpiry n =>
    exact answered_of_expiry (f := fun s => s.modPort n (Port.restoreDue s.now)) rfl rfl
      (own n (by simp [Port.timers])) fun u => same_modPort ..
  | residencyTimerExpiry =>
    exact answered_of_expiry rfl rfl (List.mem_append_right _ (List.mem_singleton_self _)) fun u =>
      ⟨rfl, rfl, rfl, rfl, rfl⟩
  | apply n => exact answered_of_running rfl (same_slotCommand (same_applyEffect n s)).answers
  | forceWake n => exact answered_of_running rfl (same_slotCommand (same_forceEffect n s)).answers
  | flush n => exact answered_of_running rfl (same_flush n s).answers
  | sendAdvert n => exact answered_of_running rfl (same_slotCommand (same_sendEffect n s)).answers
  | restoreCeiling n => exact answered_of_running rfl (same_slotCommand (same_modPort n _ s)).answers
  | clearCounters n => exact answered_of_running rfl (same_slotCommand (same_modPort n _ s)).answers
  | portReset n => exact answered_of_running rfl (s.answers_portReset n)
  | unknownCommand n => exact answered_of_running rfl (same_modPort n _ s).answers
  | softReset => exact answered_of_running rfl s.answers_softReset
  | devCmdInvalid => exact answered_of_running rfl (same_accessError s).answers
  | writeW value => exact answered_of_running rfl (same_writeW value s).answers
  | writePoolLow value => exact answered_of_running rfl (same_modPool _ s).answers
  | flagClearWrite loc value => exact answered_of_running rfl (same_clearFlags loc value s).answers
  | enableWrite loc value => exact answered_of_running rfl (same_writeEnables loc value s).answers
  | registerWrite offset value => exact answered_of_running rfl (s.answers_hostWrite offset fullLanes value)
  | faultyAccess access =>
    cases access with
    | read offset => exact answered_of_running (f := State.hostRead offset) rfl (s.answers_hostRead offset)
    | write offset lanes value =>
      exact answered_of_running (f := State.hostWrite offset lanes value) rfl (s.answers_hostWrite offset lanes value)

end Sys2Proof.Machine
end

section
/-! The acts that several commands share: the idle timer, the eligibility test, the arbiter's tests (R21, R23, R41, R43,
R72 to R75). -/

-- One theorem at a time: their elaboration side by side would each hold a thread and its stack.
set_option Elab.async false

namespace Sys2Proof.Machine

section
variable {s : State} {n : PortId} {p : Port} {now : Nat}

/-- A wake cause (R40). -/
def Port.Cause (p : Port) : Prop :=
  p.txq.queue ≠ [] ∨ p.adu.advertPending = true ∨ p.adu.echoPending ≠ none ∨ p.psc.force = true

/-- The conditions under which a request is URGENT (R72). -/
def Port.Presses (now : Nat) (p : Port) : Prop :=
  p.psc.force = true ∨
    (p.cfg.urgencyCells ≠ 0 ∧ p.cfg.urgencyCells.toNat ≤ (p.txq.queue.map fun d => d.cells.length).sum) ∨
    (p.cfg.urgencyAge ≠ 0 ∧ ∃ d rest, p.txq.queue = d :: rest ∧ p.cfg.urgencyAge.toNat ≤ now - d.admission)

/-- The quiet conditions of the idle timer (R23). -/
def Port.Quiet (p : Port) : Prop :=
  p.psc.ps = .active ∧ p.lpe.tx = .idle ∧ p.txq.queue = [] ∧ p.adu.advertPending = false ∧ p.adu.echoPending = none

theorem Port.wakeCause_iff : p.wakeCause = true ↔ p.Cause := by
  simp [Port.wakeCause, Adu.managementPending, Port.Cause, or_assoc, Option.isSome_iff_ne_none]

theorem Port.urgent_iff : p.urgent now = true ↔ p.Presses now := by
  have nonzero {w : Nat} (x : BitVec w) : x.toNat = 0 ↔ x = 0 := by
    rw [← BitVec.toNat_inj]; rfl
  unfold Port.urgent Port.Presses Port.heldCells
  cases p.txq.queue <;> simp [nonzero, or_assoc]

theorem Port.quiet_iff : p.quiet = true ↔ p.Quiet := by
  unfold Port.quiet Port.Quiet Adu.managementPending
  cases h : p.lpe.tx <;> simp [Transmitter.isBypass, and_assoc]

end

/-- Settles O10, from the definition of the idle timer's update and `Port.quiet_iff`. -/
theorem idleTimerFollowsQuiet : Obligations.IdleTimerFollowsQuiet := by
  intro n s now p
  refine ⟨fun quiet x timer => ?_, fun quiet timer => ?_, fun loud => ?_, ?_⟩
  · rw [Port.idleUpdate, if_pos (Port.quiet_iff.mpr quiet), timer]
  · rw [Port.idleUpdate, if_pos (Port.quiet_iff.mpr quiet), timer, after]
  · rw [Port.idleUpdate, if_neg fun quiet => loud (Port.quiet_iff.mp quiet)]
  · obtain ⟨now_, -⟩ := same_select n s
    rw [← now_]; rfl

/-- Settles O11, depth by depth. -/
theorem eligibilityTest : Obligations.EligibilityTest := by
  intro p d
  have partner : p.partnerTime d = match d with
      | .dim => if p.adu.pa.valid = true then p.adu.pa.tDim.toNat else 50
      | .deep => p.adu.pa.tDeep.toNat
      | .dormant => p.adu.pa.tDormant.toNat := by cases d <;> rfl
  have mode : p.cfg.latencyMode = .variable ↔ p.cfg.latencyMode ≠ .fixed := by cases p.cfg.latencyMode <;> simp
  refine ⟨partner, ?_⟩
  simp only [Port.eligible, Bool.and_eq_true, Bool.or_eq_true, beq_iff_eq, decide_eq_true_eq, mode, partner, and_assoc]
  cases d <;> simp [SleepDepth.isJoint, SleepDepth.selfWake, imp_iff_not_or]

/-! ## The queue of the arbiter -/

section
variable {s : State} {n : PortId}

/-- An URGENT entry joins the tail of the URGENT part (R72). -/
theorem Wba.join_urgent {e : WbaEntry} (h : e.cls = .urgent) (b : Wba) : b.join e = { b with
    queue := b.queue.filter (·.cls == .urgent) ++ [e] ++ b.queue.filter (·.cls == .normal) } := by
  have normal : (fun x : WbaEntry => !x.isUrgent) = fun x => x.cls == .normal := by
    funext x; unfold WbaEntry.isUrgent; cases x.cls <;> rfl
  unfold Wba.join
  rw [h, normal, List.append_assoc]
  rfl

/-- A NORMAL entry joins the tail of the queue (R72). -/
theorem Wba.join_normal {e : WbaEntry} (h : e.cls = .normal) (b : Wba) :
    b.join e = { b with queue := b.queue ++ [e] } := by
  unfold Wba.join; rw [h]

/-- The class of a request (R72). -/
theorem class_eq (s : State) (n : PortId) {cls : ReqClass} (h : cls = .urgent ↔ (s.port n).Presses s.now) :
    (if (s.port n).urgent s.now = true then ReqClass.urgent else .normal) = cls := by
  rw [← Port.urgent_iff] at h
  split
  · exact (h.mpr ‹_›).symm
  · cases cls with
    | normal => rfl
    | urgent => exact absurd (h.mp rfl) ‹_›

/-- The port in GRANT-WAIT with its entry in the queue, and the grants that follow (R41, R72, R74). -/
theorem State.enterGrantWait_grants (r : GrantWait) {cls : ReqClass} (h : cls = .urgent ↔ (s.port n).Presses s.now) :
    Grants ((s.setPort n { s.port n with
        psc := { (s.port n).psc with ps := .grantWait r, dormantTimer := none, offerTimer := none } }).modWba
      (Wba.join { port := n, cls := cls, fromDepth := r.fromDepth, entryTime := s.now })) (s.enterGrantWait n r) := by
  have entered : s.enterGrantWait n r = ((s.setPort n { s.port n with
        psc := { (s.port n).psc with ps := .grantWait r, dormantTimer := none, offerTimer := none } }).modWba
      (Wba.join { port := n, cls := cls, fromDepth := r.fromDepth, entryTime := s.now })).testGrant := by
    rw [← class_eq s n h]
    simp only [State.enterGrantWait, State.request, State.modPort, State.port_setPort_same]
    rfl
  rw [entered]
  exact State.testGrant_grants _

theorem State.wakeCheck_of_cause (cause : (s.port n).Cause) : s.wakeCheck n =
    match (s.port n).psc.ps with
    | .dim => s.modPort n (Port.beginLocal s.now .dim .dim false)
    | .offerDeep => s.modPort n (Port.beginLocal s.now .dim .deep false)
    | .deep => s.enterGrantWait n { fromDepth := .deep, waitDepth := .deep }
    | .offerDormant => s.enterGrantWait n { fromDepth := .deep, waitDepth := .dormant }
    | .dormant => s.enterGrantWait n { fromDepth := .dormant, waitDepth := .dormant }
    | _ => s := by
  rw [State.wakeCheck, if_pos (Port.wakeCause_iff.mpr cause)]
  cases (s.port n).psc.ps <;> rfl

theorem State.wakeCheck_of_no_cause (cause : ¬ (s.port n).Cause) : s.wakeCheck n = s := by
  rw [State.wakeCheck, if_neg fun h => cause (Port.wakeCause_iff.mp h)]

/-- In a state that a wake cause does not move, nothing happens. -/
theorem State.wakeCheck_of_awake (ps : (s.port n).psc.ps = .offline ∨ (s.port n).psc.ps = .active ∨
    (∃ r, (s.port n).psc.ps = .grantWait r) ∨ ∃ w, (s.port n).psc.ps = .waking w) : s.wakeCheck n = s := by
  by_cases cause : (s.port n).Cause
  · rw [State.wakeCheck_of_cause cause]
    obtain ps | ps | ⟨r, ps⟩ | ⟨w, ps⟩ := ps <;> rw [ps]
  · exact State.wakeCheck_of_no_cause cause

end

/-- Settles O12: `State.wakeCheck_of_cause`, with the LOCAL wake of `Port.beginLocal_eq` and the grants of
`State.enterGrantWait_grants`. -/
theorem wakeCauseTakesPort : Obligations.WakeCauseTakesPort := by
  intro n s p cells cause urgent alert woken waiting waits
  have enters (r : GrantWait) (h : s.wakeCheck n = s.enterGrantWait n r) : waits r := by
    refine ⟨fun press => ?_, fun calm => ?_⟩
    · have grants := State.enterGrantWait_grants (s := s) (n := n) r (cls := .urgent) (iff_of_true rfl press)
      rw [State.modWba, Wba.join_urgent rfl] at grants
      exact h ▸ grants
    · have grants := State.enterGrantWait_grants (s := s) (n := n) r (cls := .normal) (iff_of_false nofun calm)
      rw [State.modWba, Wba.join_normal rfl] at grants
      exact h ▸ grants
  have wakes (c : cause) := State.wakeCheck_of_cause (s := s) (n := n) c
  refine ⟨State.wakeCheck_of_no_cause, fun c ps => ?dim, fun c ps => ?offerDeep, fun c ps => enters _ ?_,
    fun c ps => enters _ ?_, fun c ps => enters _ ?_, State.wakeCheck_of_awake⟩
  case dim => rw [wakes c, ps]; exact congrArg (s.setPort n ·) (Port.beginLocal_eq ..)
  case offerDeep => rw [wakes c, ps]; exact congrArg (s.setPort n ·) (Port.beginLocal_eq ..)
  all_goals rw [wakes c, ps]

/-- Settles O13, by the two from-depths. -/
theorem withdrawalReturnsToFromDepth : Obligations.WithdrawalReturnsToFromDepth := by
  intro n s p cause back
  refine ⟨fun r ps c => ?stays, fun r ps c depth => ?deep, fun r ps c depth => ?dormant, fun ps => ?other⟩
  case stays => rw [State.withdrawCheck, ps]; exact if_pos (Port.wakeCause_iff.mpr c)
  case deep =>
    have no : ¬ (s.port n).wakeCause = true := fun h => c (Port.wakeCause_iff.mp h)
    rw [State.withdrawCheck, ps]
    simp only [if_neg no, depth]
    rfl
  case dormant =>
    have no : ¬ (s.port n).wakeCause = true := fun h => c (Port.wakeCause_iff.mp h)
    rw [State.withdrawCheck, ps]
    simp only [if_neg no, depth]
    rfl
  case other =>
    unfold State.withdrawCheck
    split
    · rename_i r h; rw [h] at ps; cases ps
    · rfl

/-- Settles O14: GRANT is the test of the grant condition (`State.testGrant_grants`). -/
theorem grantsWhileCountBelowW : Obligations.GrantsWhileCountBelowW := fun s released =>
  ⟨_, exec_of_released rfl released, s.testGrant_grants, s.testGrant_grants.condition_false⟩

section
variable {s : State} {n : PortId}

theorem State.promoteCheck_of_no_entry (h : ∀ e ∈ s.wba.queue, e.port = n → e.cls = .urgent) :
    s.promoteCheck n = s := by
  have none_ : s.wba.queue.any (fun e => e.port == n && !e.isUrgent) = false := by
    simpa [List.any_eq_false, WbaEntry.isUrgent] using h
  rw [State.promoteCheck, none_, Bool.and_false, if_neg Bool.false_ne_true]

theorem State.promoteCheck_of_calm (h : ¬ (s.port n).Presses s.now) : s.promoteCheck n = s := by
  rw [State.promoteCheck, if_neg]
  rw [Bool.and_eq_true, Port.urgent_iff]
  exact fun k => h k.1

/-- The entry of a port moved to the tail of the URGENT part, the others in their order. -/
theorem Wba.promote_of_split {b : Wba} {before after : List WbaEntry} {e : WbaEntry} (queue : b.queue = before ++ e :: after)
    (port : e.port = n) (cls : e.cls = .normal) (others : ∀ x ∈ before ++ after, x.port ≠ n) :
    b.promote n = { b with queue := (before ++ after).filter (·.cls == .urgent) ++ [{ e with cls := .urgent }]
      ++ (before ++ after).filter (·.cls == .normal) } := by
  have found : b.queue.find? (fun x => x.port == n && !x.isUrgent) = some e := by
    rw [queue, List.find?_append, List.find?_eq_none.mpr fun x hx => by simp [others x (List.mem_append_left _ hx)],
      Option.none_or, List.find?_cons_of_pos (by simp [port, cls, WbaEntry.isUrgent])]
  have rest : b.queue.filter (·.port != n) = before ++ after := by
    rw [queue, List.filter_append, List.filter_cons_of_neg (by simp [port]), ← List.filter_append]
    exact List.filter_eq_self.mpr fun x hx => by simpa using others x hx
  rw [Wba.promote, found, Wba.remove, rest]
  exact Wba.join_urgent rfl _

end

/-- Settles O15: `Wba.promote_of_split`, then the grants of the test. -/
theorem promotionToUrgentTail : Obligations.PromotionToUrgentTail := by
  intro n s p cells urgent
  refine ⟨State.promoteCheck_of_calm, State.promoteCheck_of_no_entry, ?_⟩
  intro before e after press queue port cls others rest queue_
  have any : s.wba.queue.any (fun x => x.port == n && !x.isUrgent) = true := by
    rw [queue, List.any_eq_true]
    exact ⟨e, by simp, by simp [port, cls, WbaEntry.isUrgent]⟩
  have test : s.promoteCheck n = (s.modWba (Wba.promote n)).testGrant := by
    rw [State.promoteCheck, any, Bool.and_true, if_pos (Port.urgent_iff.mpr press)]
  rw [test]
  have grants := State.testGrant_grants (s.modWba (Wba.promote n))
  rw [State.modWba, Wba.promote_of_split queue port cls others] at grants
  rw [State.modWba, Wba.promote_of_split queue port cls others]
  exact grants

/-! ## The head of the queue -/

section
variable {s : State} {n : PortId} {p : Port} {now : Nat} {d : Descriptor} {rest : List Descriptor}

theorem Port.newReleaseWatch_nil (h : p.txq.queue = []) : p.newReleaseWatch now = none := by
  rw [Port.newReleaseWatch, h]

theorem Port.newReleaseWatch_cons (h : p.txq.queue = d :: rest) : p.newReleaseWatch now =
    match d.release with | some t => if now < t then some t else none | none => none := by
  simp only [Port.newReleaseWatch, h]
  cases d.release <;> rfl

theorem Port.newUrgencyWatch_nil (h : p.txq.queue = []) : p.newUrgencyWatch = none := by
  rw [Port.newUrgencyWatch, h]

theorem Port.newUrgencyWatch_cons (h : p.txq.queue = d :: rest) : p.newUrgencyWatch =
    if p.cfg.urgencyAge = 0 then none else some (d.admission + p.cfg.urgencyAge.toNat) := by
  have zero : p.cfg.urgencyAge.toNat = 0 ↔ p.cfg.urgencyAge = 0 := by rw [← BitVec.toNat_inj]; rfl
  rw [Port.newUrgencyWatch, h]
  simp only [zero]

/-- The port with these watches of its head (R130, R137). -/
def Port.watching (release urgency : Option Nat) (p : Port) : Port :=
  { p with txq := { p.txq with releaseWatch := release, urgencyWatch := urgency } }

theorem State.newHead_eq (n : PortId) (s : State) : s.newHead n =
    let release := (s.port n).newReleaseWatch s.now
    match (s.port n).newUrgencyWatch with
    | none => s.modPort n (Port.watching release none)
    | some t =>
        if t ≤ s.now then (s.modPort n (Port.watching release none)).promoteCheck n
        else s.modPort n (Port.watching release (some t)) := rfl

end

/-- Settles O18, by the queue and then by the urgency age. -/
theorem newHeadSetsWatches : Obligations.NewHeadSetsWatches := by
  intro n s p watch
  refine ⟨fun queue => ?_, fun d rest queue => ?_⟩
  · rw [State.newHead_eq, Port.newReleaseWatch_nil queue, Port.newUrgencyWatch_nil queue]
    rfl
  · intro release age
    rw [State.newHead_eq, Port.newReleaseWatch_cons queue, Port.newUrgencyWatch_cons queue]
    refine ⟨fun zero => ?_, fun pos ahead => ?_, fun pos past => ?_⟩
    · rw [if_pos zero]; rfl
    · rw [if_neg pos]; exact if_neg (Nat.not_le.mpr ahead)
    · rw [if_neg pos]; exact if_pos past

/-! ## Removal (R117) -/

section
variable {s : State} {n : PortId} {i : Nat} {d : Descriptor} {p : Port}

theorem Port.lastMarked_iff : p.lastMarked d = true ↔ d.mark = true ∧ ∃ f, p.txq.flush = some f ∧ f.left ≤ 1 := by
  unfold Port.lastMarked
  cases p.txq.flush <;> simp

/-- The removal of the descriptor at a place of the queue: the port's part, the cells freed, the watches (R117). -/
theorem State.removeAt_of_getElem? (at_ : (s.port n).txq.queue[i]? = some d) (c : Counter) : s.removeAt n i c =
    let u := (s.modPort n (Port.takeOut i d c)).modPool (Pool.freeCells d.cells)
    if i = 0 then u.newHead n else u := by
  rw [State.removeAt, at_]

end

/-- Settles O17: `Port.takeOut_eq` field by field. -/
theorem removalEffects : Obligations.RemovalEffects := by
  intro n i c s d p at_ rest ends
  have last : p.lastMarked d = true ↔ ends := Port.lastMarked_iff
  refine ⟨p.takeOut i d c, ?_⟩
  rw [State.removeAt_of_getElem? at_]
  unfold State.modPort
  rw [show (s.port n).takeOut i d c = p.takeOut i d c from rfl, Port.takeOut_eq]
  refine ⟨rfl, rfl, rfl, rfl, rfl, rfl, rfl, rfl, rfl, fun k => Counters.get_bump c k p.counters, ?abort, ?aged, ?flush,
    rfl, fun other => if_neg other, fun filling => if_pos filling, rfl, rfl, rfl, rfl, fun e => ?ends, fun e => ?goes, rfl⟩
  case abort => rintro rfl; simp [Counters.bump, satInc_eq_satAdd]
  case aged => rintro rfl; simp [Counters.bump, satInc_eq_satAdd]
  case flush => rintro rfl; simp [Counters.bump, satInc_eq_satAdd]
  case ends =>
    have e := last.mpr e
    exact ⟨if_pos e, if_pos e, if_pos e⟩
  case goes =>
    have e : ¬ p.lastMarked d = true := fun k => e (last.mp k)
    exact ⟨if_neg e, if_neg e, if_neg e⟩

end Sys2Proof.Machine
end

section
/-! The loss of the link (R6) and the transmitter selection (R125 to R131). -/

-- One theorem at a time: their elaboration side by side would each hold a thread and its stack.
set_option Elab.async false

namespace Sys2Proof.Machine

/-! ## The loss of the link -/

/-- The loss of the link, with what becomes of a held unit (R6, R80, R81). -/
theorem State.loseLink_self (n : PortId) (grants : Bool) (s : State) : s.loseLink n grants =
    let u := s.unlink n (s.port n).linkLost
    if (s.port n).psc.ps.holdsUnit then
      if grants then (u.modWba Wba.release).testGrant else u.modWba Wba.release
    else u := by
  have lost := State.loseLink_eq (s := s) (n := n) grants (f := id) rfl
  rw [State.modPort_id _ _ rfl] at lost
  exact lost

/-- Settles O8: `Port.linkLost_eq` field by field, and `State.loseLink_self`. -/
theorem linkLossEffects : Obligations.LinkLossEffects := by
  intro n grants s p
  have holds : (s.port n).psc.ps.holdsUnit = true ↔ p.inBudget := PS.holdsUnit_iff _
  refine ⟨p.linkLost, ?_⟩
  rw [State.loseLink_self, show (s.port n).linkLost = p.linkLost from rfl, Port.linkLost_eq]
  refine ⟨rfl, rfl, rfl, rfl, rfl, rfl, rfl, rfl, rfl, fun none_ => if_pos none_, fun some_ => if_neg some_, rfl, rfl, rfl,
    rfl, fun none_ => ?none, fun unit soft => ?soft, fun unit hard => ?hard⟩
  case none => exact if_neg fun h => none_ (holds.mp h)
  case soft => rw [soft]; exact if_pos (holds.mpr unit)
  case hard =>
    rw [hard]
    simp only [if_pos (holds.mpr unit), if_true]
    exact State.testGrant_grants _

/-! ## The transmitter selection -/

section
variable {s : State} {n : PortId}

/-- The transmitter can be given a frame (R125). -/
def Port.Free (p : Port) : Prop := p.psc.ps = .active ∧ p.lpe.tx = .idle

theorem State.select_of_not_free (h : ¬ (s.port n).Free) : s.select n = s := if_neg h

theorem State.select_of_free (h : (s.port n).Free) : s.select n =
    match (s.port n).adu.echoPending with
    | some seq => s.modPort n (Port.startEcho seq)
    | none =>
        if (s.port n).adu.advertPending then s.modPort n Port.startAdvert
        else if (s.port n).headEligible s.now then s.modPort n (Port.startData s.now (s.headBytes n))
        else s := if_pos h

theorem State.select_of_advert (h : (s.port n).Free) (echo : (s.port n).adu.echoPending = none)
    (advert : (s.port n).adu.advertPending = true) : s.select n = s.modPort n Port.startAdvert := by
  rw [State.select_of_free h, echo]
  exact if_pos advert

theorem State.select_of_unmanaged (h : (s.port n).Free) (echo : (s.port n).adu.echoPending = none)
    (advert : (s.port n).adu.advertPending = false) : s.select n =
      if (s.port n).headEligible s.now then s.modPort n (Port.startData s.now (s.headBytes n)) else s := by
  rw [State.select_of_free h, echo, advert]; rfl

/-- A head is eligible: COMPLETE, unmarked and past any release time (R128). -/
theorem Port.headEligible_iff {now : Nat} {p : Port} {d : Descriptor} {rest : List Descriptor} (queue : p.txq.queue = d :: rest) :
    p.headEligible now = true ↔ d.state = .complete ∧ d.mark = false ∧ ∀ t, d.release = some t → t ≤ now := by
  simp only [Port.headEligible, queue]
  cases d.release <;> simp [and_assoc]

/-- The bytes of a frame, byte by byte (R108, R114). -/
theorem Pool.readFrame_eq (pool : Pool) (cells : List CellNo) (length : Nat) :
    pool.readFrame cells length = (List.range length).map fun i => match cells[i / 128]? with
      | some c => Memory.read pool.data (c.val * 128 + i % 128)
      | none => 0 := by
  refine List.map_congr_left fun i _ => ?_
  unfold byteAddress
  simp only [Config.cellBytes]
  cases cells[i / 128]? <;> rfl

theorem Port.startAdvert_of_image {p : Port} {a : Advert} (image : p.adu.image = some a) :
    p.startAdvert = { p with
      lpe := { p.lpe with tx := .busy (.advert a.seq) (crcBytes 0xFFFF a.bytes) }
      lineOut := p.lineOut ++ [.frameStart a.bytes]
      adu := { p.adu with advertPending := false } } := by
  have chosen : p.adu.image.getD (p.makeImage p.adu.seq) = a := by rw [image]; rfl
  unfold Port.startAdvert
  rw [chosen]
  rfl

/-- The bytes of an ADVERT (R189). -/
theorem Advert.bytes_eq (a : Advert) : a.bytes = [0x02, a.seq ++ 0#2 ++ a.capability] ++ beBytes a.tDim ++
    beBytes a.tDeep ++ beBytes a.tDormant ++ [a.refreshMs] := by
  have flags : a.seq ++ a.capability.setWidth 4 = a.seq ++ 0#2 ++ a.capability := by
    ext i hi
    simp only [BitVec.getElem_append, BitVec.getElem_setWidth, BitVec.getElem_zero]
    grind
  rw [Advert.bytes, flags]
  simp [typeAdvert]

end

/-- Settles O9, in the order of the selection. -/
theorem selectionOrder : Obligations.SelectionOrder := by
  intro n s p start free
  refine ⟨State.select_of_not_free, fun seq f echo => ?echo, fun a f echo advert image => ?advert,
    fun d rest f echo advert queue => ?data, fun f echo advert queue => ?empty⟩
  case echo => rw [State.select_of_free f, echo]; rfl
  case advert =>
    rw [State.select_of_advert f echo advert, State.modPort, Port.startAdvert_of_image image, Advert.bytes_eq]
  case data =>
    rw [State.select_of_unmanaged f echo advert]
    have ready := Port.headEligible_iff (now := s.now) queue
    refine ⟨fun late => if_neg fun h => late (ready.mp h), fun h => ?_⟩
    have bytes : s.headBytes n = s.pool.readFrame d.cells d.length := by
      rw [State.headBytes, queue]
    rw [if_pos (ready.mpr h), State.modPort, Port.startData_eq queue, bytes, Pool.readFrame_eq]
    rfl
  case empty =>
    rw [State.select_of_unmanaged f echo advert, Port.headEligible, queue]
    rfl

end Sys2Proof.Machine
end

section
/-! The resets of the pin, the signal and the timers of the link (R1 to R7, R170). -/

-- One theorem at a time: their elaboration side by side would each hold a thread and its stack.
set_option Elab.async false

namespace Sys2Proof.Machine

section
variable {s : State} {n : PortId} {p : Port} {now : Nat}

/-- The entry into DOWN of an enabled port that finds the signal present (R1, R2). -/
theorem Port.enterDown_of_present (enable : p.cfg.enable = true) (signal : p.lpe.signal = true) : p.enterDown now =
    { p with lpe := { p.lpe with link := .acquiring, acquire := some (now + 1000), restart := none } } := by
  rw [Port.enterDown_eq, if_pos ⟨enable, signal⟩]

/-- The entry into DOWN of a disabled port, or of one that finds no signal. -/
theorem Port.enterDown_of_absent (h : p.cfg.enable = false ∨ p.lpe.signal = false) : p.enterDown now =
    { p with lpe := { p.lpe with link := .down, acquire := none, restart := none } } := by
  rw [Port.enterDown_eq, if_neg]
  obtain h | h := h <;> simp [h]

/-- Ascending cell numbers are a range of the numbers from the first (R99). -/
theorem cellsFrom_eq (k i : Nat) : cellsFrom k i = (List.range' i k).map (Fin.ofNat 4096) := by
  induction k generalizing i with
  | zero => rfl
  | succ k ih => rw [cellsFrom, ih, List.range'_succ, List.map_cons]

theorem allCells_eq : allCells = (List.range 4096).map (Fin.ofNat 4096) := by
  rw [allCells, cellsFrom_eq, List.range_eq_range']
  rfl

end

/-- Settles O5, from the definitions of the two commands. -/
theorem pinResetAndRelease : Obligations.PinResetAndRelease := by
  intro s
  refine ⟨?pin, fun held => ?held, fun released => ?released⟩
  case pin => rw [← allCells_eq]; rfl
  case held =>
    have entered := funext (Port.enterDown_eq s.now)
    have released : exec .resetnRelease s = _ := if_pos held
    rw [entered] at released
    exact released
  case released => exact if_neg (by simp [released])

/-! ## The signal -/

section
variable {s : State} {n : PortId} {p : Port} {now : Nat}

/-- A power state in which a lost signal takes the link down (R5). -/
def PS.Watched (x : PS) : Prop :=
  x = .active ∨ x = .dim ∨ x = .offerDeep ∨ ∃ w, x = .waking w ∧ w.selfDepth = .dim ∧ w.waitDepth = .dim

theorem PS.watchesSignal_iff {x : PS} : x.watchesSignal = true ↔ x.Watched := by
  cases x <;> simp [PS.watchesSignal, PS.Watched]

/-- The signal appears: an enabled port in DOWN acquires, any other only keeps the level (R2). -/
theorem Port.signalPresent_of_down (link : p.lpe.link = .down) (enable : p.cfg.enable = true) : p.signalPresent now =
    { p with lpe := { p.lpe with signal := true, link := .acquiring, acquire := some (now + 1000), restart := none } } := by
  exact if_pos ⟨link, enable⟩

theorem Port.signalPresent_of_other (h : p.lpe.link ≠ .down ∨ p.cfg.enable = false) :
    p.signalPresent now = { p with lpe := { p.lpe with signal := true } } := by
  refine if_neg fun k => ?_
  obtain ⟨down, enable⟩ := k
  obtain h | h := h
  · exact h down
  · exact Bool.false_ne_true (h.symm.trans enable)

/-- The signal goes: what happens is that of the link's state (R3, R5). -/
theorem State.signalLost_eq (n : PortId) (s : State) : s.signalLost n =
    let gone := s.setPort n ((s.port n).setSignal false)
    match (s.port n).lpe.link with
    | .acquiring => s.setPort n (((s.port n).setSignal false).enterDown s.now)
    | .up => if (s.port n).psc.ps.watchesSignal then gone.dropLink n else gone
    | .down => gone
    | .restart => gone := by
  unfold State.signalLost
  simp only [State.modPort, State.port_setPort_same, State.setPort_setPort, State.setPort_now]
  rfl

theorem State.signalLost_of_other (h : (s.port n).lpe.link = .down ∨ (s.port n).lpe.link = .restart ∨
    ((s.port n).lpe.link = .up ∧ ¬ (s.port n).psc.ps.Watched)) :
    s.signalLost n = s.setPort n ((s.port n).setSignal false) := by
  rw [State.signalLost_eq]
  obtain link | link | ⟨link, ps⟩ := h
  · rw [link]
  · rw [link]
  · rw [link]
    exact if_neg fun h => ps (PS.watchesSignal_iff.mp h)

theorem State.dropLink_setPort (n : PortId) (q : Port) (s : State) :
    (s.setPort n q).dropLink n = (s.setPort n (q.enterDown s.now)).loseLink n true := by
  unfold State.dropLink
  rw [State.modPort_setPort]
  rfl

theorem exec_signalPresent (signal : (s.port n).lpe.signal = false) : exec (.signalPresent n) s =
    if s.resetHeld then .next (s.modPort n (Port.setSignal true)) else .next (s.modPort n (Port.signalPresent s.now)) :=
  if_neg (by simp [signal])

theorem exec_signalLost (signal : (s.port n).lpe.signal = true) : exec (.signalLost n) s =
    if s.resetHeld then .next (s.modPort n (Port.setSignal false)) else .next (s.signalLost n) :=
  if_pos signal

end

/-- Settles O6, signal by signal and then by the state of the link. -/
theorem signalMovesLink : Obligations.SignalMovesLink := by
  intro n s p gone watched
  refine ⟨fun signal => if_pos signal, fun signal released link enable => ?acquires, fun signal h => ?present,
    fun signal => if_neg (by simp [p, signal]), fun signal released link => ?acquiring, fun signal released link w => ?drops,
    fun signal h => ?lost⟩
  case acquires =>
    rw [exec_signalPresent signal, released]
    exact congrArg (fun q => Host.Outcome.next (s.setPort n q)) (Port.signalPresent_of_down link enable)
  case present =>
    rw [exec_signalPresent signal]
    split
    · rfl
    · rename_i released
      exact congrArg (fun q => Host.Outcome.next (s.setPort n q)) (Port.signalPresent_of_other (h.resolve_left released))
  case acquiring =>
    rw [exec_signalLost signal, released, State.signalLost_eq, show (s.port n).lpe.link = .acquiring from link]
    exact congrArg (fun q => Host.Outcome.next (s.setPort n q)) (Port.enterDown_of_absent (.inr rfl))
  case drops =>
    have watches : (s.port n).psc.ps.watchesSignal = true := PS.watchesSignal_iff.mpr w
    rw [exec_signalLost signal, released, State.signalLost_eq, show (s.port n).lpe.link = .up from link]
    have dropped := State.dropLink_setPort n ((s.port n).setSignal false) s
    rw [Port.enterDown_of_absent (.inr rfl)] at dropped
    exact congrArg Host.Outcome.next ((if_pos watches).trans dropped)
  case lost =>
    rw [exec_signalLost signal]
    split
    · rfl
    · rename_i released
      rw [State.signalLost_of_other (h.resolve_left released)]
      rfl

/-! ## The timers of the link -/

section
variable {s : State} {n : PortId}

theorem State.acquireExpiry_of_acquiring (link : (s.port n).lpe.link = .acquiring) :
    s.acquireExpiry n = (s.setPort n ((s.port n).stopAcquire.linkUp s.now)).settle n := by
  unfold State.acquireExpiry State.raiseLink
  simp only [State.modPort, State.port_setPort_same, State.setPort_setPort, State.setPort_now]
  exact if_pos link

theorem State.restartExpiry_of_restart (link : (s.port n).lpe.link = .restart) :
    s.restartExpiry n = s.setPort n ((s.port n).stopRestart.enterDown s.now) := by
  unfold State.restartExpiry
  simp only [State.modPort, State.port_setPort_same, State.setPort_setPort, State.setPort_now]
  exact if_pos link

end

/-- Settles O7, timer by timer. -/
theorem linkTimersMoveLink : Obligations.LinkTimersMoveLink := by
  intro n s t released p now
  refine ⟨fun timer link => ?up, fun timer link enable signal => ?again, fun timer link h => ?down⟩
  case up =>
    exact (exec_of_expiry rfl rfl timer released).trans
      (congrArg _ (State.acquireExpiry_of_acquiring (s := s.reach t) link))
  case again =>
    exact (exec_of_expiry rfl rfl timer released).trans (congrArg Host.Outcome.next
      ((State.restartExpiry_of_restart (s := s.reach t) link).trans (congrArg (fun q => (s.reach t).setPort n q)
        (Port.enterDown_of_present (p := p.stopRestart) enable signal))))
  case down =>
    exact (exec_of_expiry rfl rfl timer released).trans (congrArg Host.Outcome.next
      ((State.restartExpiry_of_restart (s := s.reach t) link).trans (congrArg (fun q => (s.reach t).setPort n q)
        (Port.enterDown_of_absent (p := p.stopRestart) h))))

end Sys2Proof.Machine
end

section
/-! Control words heard on the line: fill words, offers and refresh (R14, R15, R20, R26, R27, R29, R33, R36, R37). -/

-- One theorem at a time: their elaboration side by side would each hold a thread and its stack.
set_option Elab.async false

namespace Sys2Proof.Machine

/-! ## Commands that change one port -/

section
variable {c : Instr} {s t : State} {f g : State → State} {timer : Option Nat} {n : PortId} {p q : Port} {x : Nat}

/-- A command of a device out of reset, by the state it makes. -/
theorem exec_to (taken : exec c s = running s f) (released : s.resetHeld = false) (made : f s = t) : exec c s = .next t :=
  (exec_of_released taken released).trans (congrArg Host.Outcome.next made)

/-- The expiry of a running timer, by the state it makes. -/
theorem expiry_to (taken : exec c s = running s g) (expiry : g s = onExpiry timer f s) (running_ : timer = some x)
    (released : s.resetHeld = false) (made : f (s.reach x) = t) : exec c s = .next t :=
  (exec_of_expiry taken expiry running_ released).trans (congrArg Host.Outcome.next made)

theorem State.setPort_congr (made : p = q) : s.setPort n p = s.setPort n q := congrArg (fun q => s.setPort n q) made

theorem State.setPort_eq_self (made : q = s.port n) : s.setPort n q = s := by rw [made, State.setPort_self]

end

/-! ## Fill words -/

section
variable {p : Port} {now : Nat}

/-- A fill word is not observed (R14, R15). -/
def Port.Deaf (p : Port) : Prop := p.lpe.link ≠ .up ∨ p.psc.rs = .reviving ∨ p.psc.rs = .joint

theorem Port.hearIdl_of_deaf (deaf : p.Deaf) : p.hearIdl now = p := by
  unfold Port.hearIdl
  split
  · rename_i up
    obtain rs | rs := deaf.resolve_left fun off => off up <;> rw [rs]
  · rfl

theorem Port.hearDim_of_deaf (deaf : p.Deaf) : p.hearDim = p := by
  unfold Port.hearDim
  split
  · rename_i up
    obtain rs | rs := deaf.resolve_left fun off => off up <;> rw [rs]
  · rfl

theorem Port.hearIdl_awake (up : p.lpe.link = .up) (rs : p.psc.rs = .awake) : p.hearIdl now =
    if p.lpe.lastFill = some .idl then p else (p.setFill (some .idl)).setOffer none := by
  rw [Port.hearIdl, if_pos up, rs]

theorem Port.hearIdl_listen (up : p.lpe.link = .up) (rs : p.psc.rs = .listen) : p.hearIdl now = roused now p := by
  rw [Port.hearIdl, if_pos up, rs]
  exact Port.unannounced_eq ..

theorem Port.hearDim_awake (up : p.lpe.link = .up) (rs : p.psc.rs = .awake) : p.hearDim =
    if p.lpe.lastFill = some .dim then p else (p.setFill (some .dim)).toListen := by
  rw [Port.hearDim, if_pos up, rs]

theorem Port.hearDim_listen (up : p.lpe.link = .up) (rs : p.psc.rs = .listen) : p.hearDim = p.setFill (some .dim) := by
  rw [Port.hearDim, if_pos up, rs]

end

/-- Settles O19, by receive state. -/
theorem fillWordReports : Obligations.FillWordReports := by
  intro n s released p
  refine ⟨fun deaf => ⟨?_, ?_⟩, fun up rs fill => ?_, fun up rs fill => ?_, fun up rs => ?_, fun up rs fill => ?_,
    fun up rs fill => ?_, fun up rs => ?_⟩
  · exact exec_to rfl released (State.setPort_eq_self (Port.hearIdl_of_deaf deaf))
  · exact exec_to rfl released (State.setPort_eq_self (Port.hearDim_of_deaf deaf))
  · exact exec_to rfl released (State.setPort_eq_self ((Port.hearIdl_awake up rs).trans (if_pos fill)))
  · exact exec_to rfl released (State.setPort_congr ((Port.hearIdl_awake up rs).trans (if_neg fill)))
  · exact exec_to rfl released (State.setPort_congr (Port.hearIdl_listen up rs))
  · exact exec_to rfl released (State.setPort_eq_self ((Port.hearDim_awake up rs).trans (if_pos fill)))
  · refine exec_to rfl released (State.setPort_congr ((Port.hearDim_awake up rs).trans ((if_neg fill).trans ?_)))
    rw [Port.toListen, Port.cutRx_eq]
    rfl
  · exact exec_to rfl released (State.setPort_congr (Port.hearDim_listen up rs))

/-! ## Offers -/

section
variable {s : State} {n : PortId} {p : Port} {now : Nat}

/-- The first entry into DEEP, without a word sent (R31). -/
theorem Port.enterDeep_silent (now : Nat) (p : Port) : p.enterDeep now = asleepDeep now [] p := by
  have h := Port.enterDeep_eq now [] p
  rw [List.append_nil] at h
  exact h

theorem Port.enterDormant_silent (p : Port) : p.enterDormant = asleepDormant [] p := by
  have h := Port.enterDormant_eq [] p
  rw [List.append_nil] at h
  exact h

/-- The entry into DEEP after an OFD sent on an UP link (R27, R31). -/
theorem Port.enterDeep_said (up : p.lpe.link = .up) : (p.say .ofd).enterDeep now = asleepDeep now [.word .ofd] p := by
  rw [Port.say, if_pos up]
  exact Port.enterDeep_eq now [.word .ofd] p

/-- The entry into DORMANT after an OFM sent on an UP link (R36, R39). -/
theorem Port.enterDormant_said (up : p.lpe.link = .up) : (p.say .ofm).enterDormant = asleepDormant [.word .ofm] p := by
  rw [Port.say, if_pos up]
  exact Port.enterDormant_eq [.word .ofm] p

theorem State.enterDeep_eq (n : PortId) (s : State) :
    s.enterDeep n = (s.setPort n (asleepDeep s.now [] (s.port n))).wakeCheck n := by
  rw [← Port.enterDeep_silent]; rfl

theorem State.enterDormant_eq (n : PortId) (s : State) :
    s.enterDormant n = (s.setPort n (asleepDormant [] (s.port n))).wakeCheck n := by
  rw [← Port.enterDormant_silent]; rfl

/-- OFD sent, and the entry into DEEP (R27, R31). -/
theorem State.say_enterDeep (up : (s.port n).lpe.link = .up) : (s.modPort n (Port.say .ofd)).enterDeep n =
    (s.setPort n (asleepDeep s.now [.word .ofd] (s.port n))).wakeCheck n := by
  rw [← Port.enterDeep_said up]
  unfold State.enterDeep
  rw [State.modPort_modPort]
  rfl

/-- OFM sent, and the entry into DORMANT (R36, R39). -/
theorem State.say_enterDormant (up : (s.port n).lpe.link = .up) : (s.modPort n (Port.say .ofm)).enterDormant n =
    (s.setPort n (asleepDormant [.word .ofm] (s.port n))).wakeCheck n := by
  rw [← Port.enterDormant_said up]
  unfold State.enterDormant
  rw [State.modPort_modPort]
  rfl

/-- An OFD is observed (R14). -/
def Port.HearsOfd (p : Port) : Prop := p.lpe.link = .up ∧ (p.psc.rs = .awake ∨ p.psc.rs = .listen)

theorem State.hearOfd_of_unobserved (h : ¬ (s.port n).HearsOfd) : s.hearOfd n = s := if_neg h

theorem State.hearOfd_of_observed (h : (s.port n).HearsOfd) : s.hearOfd n =
    match (s.port n).psc.ps with
    | .active => s.modPort n (Port.recordOffer s.now .deep)
    | .dim =>
        if (s.port n).eligible .deep then (s.modPort n (Port.say .ofd)).enterDeep n
        else s.modPort n (Port.recordOffer s.now .deep)
    | .offerDeep => s.enterDeep n
    | _ => s := by
  refine (if_pos h).trans ?_
  cases (s.port n).psc.ps <;> rfl

end

/-- Settles O20, by power state. -/
theorem ofdMeetsPowerState : Obligations.OfdMeetsPowerState := by
  intro n s released p observed record
  refine ⟨fun o => ?_, fun o ps => ?_, fun o ps poor => ?_, fun o ps fit => ?_, fun o ps => ?_, fun o active dim offer => ?_⟩ <;>
    refine exec_to rfl released ?_
  · exact State.hearOfd_of_unobserved o
  · rw [State.hearOfd_of_observed o, ps]; rfl
  · rw [State.hearOfd_of_observed o, ps]; exact if_neg (by simp [p, poor])
  · rw [State.hearOfd_of_observed o, ps]; exact (if_pos fit).trans (State.say_enterDeep o.1)
  · rw [State.hearOfd_of_observed o, ps]; exact State.enterDeep_eq n s
  · rw [State.hearOfd_of_observed o]
    split
    · exact absurd ‹_› active
    · exact absurd ‹_› dim
    · exact absurd ‹_› offer
    · rfl

section
variable {s : State} {n : PortId} {p : Port} {now : Nat}

theorem State.hearOfm_of_deaf (h : (s.port n).lpe.link ≠ .up ∨ (s.port n).psc.rs = .awake ∨ (s.port n).psc.rs = .reviving) :
    s.hearOfm n = s := by
  unfold State.hearOfm
  simp only
  split
  · rename_i up
    obtain rs | rs := h.resolve_left fun off => off up <;> rw [rs]
  · rfl

theorem State.hearOfm_listen (up : (s.port n).lpe.link = .up) (rs : (s.port n).psc.rs = .listen) :
    s.hearOfm n = s.setPort n (roused s.now (s.port n)) := by
  refine (if_pos up).trans ?_
  rw [rs, ← Port.unannounced_eq]
  rfl

theorem State.hearOfm_joint (h : (s.port n).lpe.link = .up ∧ (s.port n).psc.rs = .joint) : s.hearOfm n =
    match (s.port n).psc.ps with
    | .deep =>
        if (s.port n).eligible .dormant then (s.modPort n (Port.say .ofm)).enterDormant n
        else s.modPort n (Port.recordOffer s.now .dormant)
    | .offerDormant => s.enterDormant n
    | .grantWait r => match r.fromDepth with
      | .deep => s.modPort n (Port.recordOffer s.now .dormant)
      | .dormant => s
    | _ => s := by
  refine (if_pos h.1).trans ?_
  rw [h.2]
  unfold State.takeOfm
  cases (s.port n).psc.ps <;> rfl

end

/-- Settles O21, by receive state and power state. -/
theorem ofmMeetsPowerState : Obligations.OfmMeetsPowerState := by
  intro n s released p observed record
  refine ⟨fun deaf => ?_, fun up rs => ?_, fun o ps poor => ?_, fun o ps fit => ?_, fun o ps => ?_, fun o r ps depth => ?_,
    fun o deep offer wait => ?_⟩ <;> refine exec_to rfl released ?_
  · exact State.hearOfm_of_deaf deaf
  · exact State.hearOfm_listen up rs
  · rw [State.hearOfm_joint o, ps]; exact if_neg (by simp [p, poor])
  · rw [State.hearOfm_joint o, ps]; exact (if_pos fit).trans (State.say_enterDormant o.1)
  · rw [State.hearOfm_joint o, ps]; exact State.enterDormant_eq n s
  · rw [State.hearOfm_joint o, ps]; simp only [depth]; rfl
  · rw [State.hearOfm_joint o]
    split
    · exact absurd ‹_› deep
    · exact absurd ‹_› offer
    · rename_i r ps
      rw [wait r ps]
    · rfl

/-! ## Refresh -/

section
variable {s : State} {n : PortId} {p : Port} {now : Nat}

theorem PS.refreshes_iff {x : PS} :
    x.refreshes = true ↔ x = .deep ∨ x = .offerDormant ∨ ∃ r, x = .grantWait r ∧ r.fromDepth = .deep := by
  cases x <;> simp [PS.refreshes]

theorem Port.hearRfr_of_deaf (h : p.lpe.link ≠ .up ∨ p.psc.rs = .awake ∨ p.psc.rs = .reviving ∨
    (p.psc.rs = .joint ∧ ¬ p.psc.ps.refreshes = true)) : p.hearRfr now = p := by
  unfold Port.hearRfr
  split
  · rename_i up
    obtain rs | rs | ⟨rs, ps⟩ := h.resolve_left fun off => off up
    · rw [rs]
    · rw [rs]
    · rw [rs]; exact if_neg ps
  · rfl

theorem Port.hearRfr_listen (up : p.lpe.link = .up) (rs : p.psc.rs = .listen) : p.hearRfr now = roused now p := by
  rw [Port.hearRfr, if_pos up, rs]
  exact Port.unannounced_eq ..

theorem Port.hearRfr_joint (up : p.lpe.link = .up) (rs : p.psc.rs = .joint) (ps : p.psc.ps.refreshes = true) :
    p.hearRfr now = p.startRefreshWatch now := by
  rw [Port.hearRfr, if_pos up, rs]
  exact if_pos ps

/-- A restart order on an UP link (R7, R34, R58). -/
theorem State.restartOrder_setPort_up {q : Port} (up : q.lpe.link = .up) : (s.setPort n q).restartOrder n =
    (s.setPort n { q with lpe := { q.lpe with link := .restart, acquire := none, restart := some (s.now + 2000) } }).loseLink
      n true := by
  unfold State.restartOrder
  rw [State.port_setPort_same, if_pos up, State.modPort_setPort]
  rfl

theorem State.restartOrder_setPort_off {q : Port} (off : q.lpe.link ≠ .up) :
    (s.setPort n q).restartOrder n = s.setPort n q := by
  unfold State.restartOrder
  rw [State.port_setPort_same, if_neg off]

theorem Port.failure_link (now : Nat) (p : Port) : (p.failure now).lpe = p.lpe := by
  rw [Port.failure_frame]

end

/-- Settles O22: RFR by receive state, and the two timers. -/
theorem refreshKeepsDeep : Obligations.RefreshKeepsDeep := by
  intro n s t released p now watching lost
  have lost_eq : ({ p with psc := { p.psc with refreshWatch := none } } : Port).refreshLost now = lost :=
    Port.refreshLost_eq ..
  have watches : p.psc.ps.refreshes = true ↔ watching := PS.refreshes_iff
  have link : lost.lpe = p.lpe := Port.failure_link ..
  refine ⟨fun deaf => ?deaf, fun up rs => ?listen, fun up rs w => ?joint, fun timer w => ?send, fun timer up => ?lossUp,
    fun timer off => ?lossOff⟩
  case deaf => exact exec_to rfl released (State.setPort_eq_self (Port.hearRfr_of_deaf (by rwa [← watches] at deaf)))
  case listen => exact exec_to rfl released (State.setPort_congr (Port.hearRfr_listen up rs))
  case joint => exact exec_to rfl released (State.setPort_congr (Port.hearRfr_joint up rs (watches.mpr w)))
  case send =>
    refine expiry_to (f := fun s => s.modPort n (Port.refreshSendDue s.now)) rfl rfl timer released ?_
    refine State.setPort_congr ((if_pos (watches.mpr w)).trans ?_)
    rw [Port.say_eq]
    rfl
  case lossUp =>
    refine expiry_to rfl rfl timer released ?_
    have order := State.restartOrder_setPort_up (s := s.reach t) (n := n) (q := lost) (by rw [link]; exact up)
    rw [← lost_eq] at order ⊢
    exact order
  case lossOff =>
    refine expiry_to rfl rfl timer released ?_
    have order := State.restartOrder_setPort_off (s := s.reach t) (n := n) (q := lost) (by rw [link]; exact off)
    rw [← lost_eq] at order ⊢
    exact order

end Sys2Proof.Machine
end

section
/-! Alert, ready and the timers of a wake and of the power state (R24, R25, R28, R30, R35, R51 to R60, R64). -/

-- One theorem at a time: their elaboration side by side would each hold a thread and its stack.
set_option Elab.async false

namespace Sys2Proof.Machine

/-! ## Alert -/

section
variable {s : State} {n : PortId} {p : Port} {w : WakeRecord} {now : Nat}

/-- RDY sent and the wake ended in ACTIVE (R60). -/
theorem State.endWakeRdy_eq (n : PortId) (s : State) : s.endWakeRdy n = (s.setPort n { s.port n with
    psc := wakeEnded (s.port n).psc
    lineOut := (s.port n).lineOut ++ said (s.port n).lpe.link .rdy }).settle n := by
  unfold State.endWakeRdy State.endWake
  rw [State.modPort_modPort]
  refine congrArg (State.settle n) (State.setPort_congr ?_)
  change ((s.port n).say .rdy).wakeEnd = _
  rw [Port.wakeEnd_eq, Port.say_eq]

/-- An ALR is observed (R14). -/
def Port.HearsAlr (p : Port) : Prop := p.lpe.link = .up ∧ p.psc.rs ≠ .reviving

theorem Port.answerAlr_awake (up : p.lpe.link = .up) (rs : p.psc.rs = .awake) :
    p.answerAlr now = { p with lineOut := p.lineOut ++ [.word .rdy] } := by
  rw [Port.answerAlr, rs]
  exact if_pos up

theorem Port.answerAlr_listen (rs : p.psc.rs = .listen) : p.answerAlr now = { p with
    lpe := { p.lpe with lastFill := none }
    psc := { p.psc with rs := .reviving, revival := some { cause := .alr, expiry := now + 2 } } } := by
  rw [Port.answerAlr, rs]
  rfl

/-- An ALR in ACTIVE, DIM or OFFER-DEEP (R57). -/
theorem State.hearAlr_fed (o : (s.port n).HearsAlr)
    (ps : (s.port n).psc.ps = .active ∨ (s.port n).psc.ps = .dim ∨ (s.port n).psc.ps = .offerDeep) :
    s.hearAlr n = s.setPort n (((s.port n).setOffer none).answerAlr s.now) := by
  refine (if_pos o).trans ?_
  unfold State.takeAlr
  have same : ((s.modPort n (Port.setOffer none)).port n).psc.ps = (s.port n).psc.ps := by
    rw [State.port_modPort_same]; rfl
  simp only [same]
  obtain ps | ps | ps := ps <;> rw [ps] <;> exact State.modPort_modPort ..

/-- An ALR during a wake (R57). -/
theorem State.hearAlr_waking (o : (s.port n).HearsAlr) (ps : (s.port n).psc.ps = .waking w) :
    s.hearAlr n = (s.setPort n ((s.port n).setOffer none)).alrWhileWaking n w := by
  refine (if_pos o).trans ?_
  unfold State.takeAlr
  have same : ((s.modPort n (Port.setOffer none)).port n).psc.ps = .waking w := by
    rw [State.port_modPort_same]; exact ps
  simp only [same]
  rfl

end

/-- Settles O23, by power state and receive state. -/
theorem alrAnswered : Obligations.AlrAnswered := by
  intro n s released p observed fed
  refine ⟨fun o => ?_, fun o ps rs => ?_, fun o ps rs => ?_, fun w o ps origin => ?_, fun w o ps origin phase => ?_,
    fun w o ps origin phase => ?_⟩ <;> refine exec_to rfl released ?_
  · exact if_neg o
  · exact (State.hearAlr_fed o ps).trans (State.setPort_congr (Port.answerAlr_awake (p := p.setOffer none) o.1 rs))
  · exact (State.hearAlr_fed o ps).trans (State.setPort_congr (Port.answerAlr_listen (p := p.setOffer none) rs))
  · rw [State.hearAlr_waking o ps, State.alrWhileWaking, origin]
    rfl
  · rw [State.hearAlr_waking o ps, State.alrWhileWaking, origin]
    simp only [phase]
    exact State.modPort_setPort ..
  · rw [State.hearAlr_waking o ps, State.alrWhileWaking, origin]
    simp only [phase]
    rw [State.endWakeRdy_eq, State.port_setPort_same, State.setPort_setPort]
    have up : said p.lpe.link .rdy = [.word .rdy] := if_pos o.1
    rw [← up]
    rfl

/-! ## The end of the SELF phase -/

section
variable {s : State} {n : PortId} {p : Port} {w : WakeRecord} {now t : Nat}

/-- The receiver at the end of a SELF phase of self-depth DIM (R51, R64). -/
theorem Port.wakeReceiver_of_fed (rs : p.psc.rs ≠ .joint) :
    p.wakeReceiver = { p with psc := { p.psc with rs := .awake, revival := none } } := by
  unfold Port.wakeReceiver
  cases h : p.psc.rs <;> first | rfl | exact absurd h rs

/-- PHASE PARTNER begins after an ALR (R51, R52). -/
theorem Port.call_eq (now : Nat) (w : WakeRecord) (p : Port) : (p.say .alr).beginPartnerPhase now w =
    let wait := p.partnerTime w.waitDepth
    let deadline := wait + p.cfg.wakeGuard.toNat
    { p with
      psc := { p.psc with ps := .waking { w with
        phase := .partner, selfTimer := none
        waitDuration := some wait, waitTimer := some (now + wait)
        deadlineDuration := some deadline, deadlineTimer := some (now + deadline) } }
      lineOut := p.lineOut ++ said p.lpe.link .alr } := by
  have time : ({ p with lineOut := p.lineOut ++ said p.lpe.link .alr } : Port).partnerTime w.waitDepth =
      p.partnerTime w.waitDepth := by cases w.waitDepth <;> rfl
  rw [Port.say_eq, Port.beginPartnerPhase, time]
  rfl

/-- The wake ends with RDY (R53, R60). -/
theorem State.selfEnd_rdy (h : w.origin = .partner ∨ w.alertSeen = true) : s.selfEnd n w = (s.setPort n { s.port n with
    psc := wakeEnded (s.port n).psc, lineOut := (s.port n).lineOut ++ said (s.port n).lpe.link .rdy }).settle n := by
  unfold State.selfEnd
  cases origin : w.origin with
  | partner => exact State.endWakeRdy_eq n s
  | localEnd =>
    have seen : w.alertSeen = true := h.resolve_left (by simp [origin])
    simp only [seen, if_true]
    split
    · rw [State.endWakeRdy_eq, State.port_modPort_same, State.modPort, State.setPort_setPort]
      rfl
    · exact State.endWakeRdy_eq n s

/-- The partner is called, the receiver left as it is (R51). -/
theorem State.selfEnd_call (origin : w.origin = .localEnd) (seen : w.alertSeen = false) (depth : w.selfDepth ≠ .dim) :
    s.selfEnd n w = s.setPort n (((s.port n).say .alr).beginPartnerPhase s.now w) := by
  unfold State.selfEnd
  rw [origin]
  simp only [seen, if_neg depth]
  rfl

/-- The partner is called, with the receiver in AWAKE (R51, R64, R65). -/
theorem State.selfEnd_call_dim (origin : w.origin = .localEnd) (seen : w.alertSeen = false) (depth : w.selfDepth = .dim) :
    s.selfEnd n w = s.setPort n (((s.port n).wakeReceiver.say .alr).beginPartnerPhase s.now w) := by
  unfold State.selfEnd
  rw [origin]
  simp only [seen, if_pos depth]
  exact (if_neg Bool.false_ne_true).trans (State.modPort_modPort ..)

/-- The unit of a budgeted SELF phase given back, with the grants that follow (R79). -/
def State.giveBack (n : PortId) (s : State) : State := if (s.port n).psc.ps.holdsUnit then s.releaseUnit else s

theorem State.port_giveBack (ps : (s.port n).psc.ps = .waking w) : (s.giveBack n).port n = s.port n := by
  unfold State.giveBack
  split
  · exact testGrant_port _ n (by rw [State.port_modWba, ps]; rfl)
  · rfl

theorem State.giveBack_now (n : PortId) (s : State) : (s.giveBack n).now = s.now := by
  unfold State.giveBack
  split
  · exact (same_releaseUnit s).1
  · rfl

theorem State.selfExpiry_of_waking (ps : (s.port n).psc.ps = .waking w) : s.selfExpiry n = (s.giveBack n).selfEnd n w := by
  unfold State.selfExpiry State.giveBack
  rw [ps]
  rfl

end

/-- Settles O25: the unit given back (`State.giveBack`), then the end of the SELF phase. -/
theorem selfPhaseEnds : Obligations.SelfPhaseEnds := by
  intro n s w t released p ps timer now wait deadline calling
  have timer : p.psc.ps.selfTimer = some t := by rw [ps]; exact timer
  have port : ((s.reach t).giveBack n).port n = p := State.port_giveBack (s := s.reach t) ps
  have now_ : ((s.reach t).giveBack n).now = now := State.giveBack_now n (s.reach t)
  have ends : (s.reach t).selfExpiry n = ((s.reach t).giveBack n).selfEnd n w := State.selfExpiry_of_waking (s := s.reach t) ps
  have holds : p.psc.ps.holdsUnit = true ↔ p.inBudget := PS.holdsUnit_iff _
  refine ⟨(s.reach t).giveBack n, fun unit => ?unit, fun none_ => ?none, fun h => ?rdy, fun origin seen depth => ?call,
    fun origin seen depth rs => ?callDim⟩
  case unit =>
    have given : (s.reach t).giveBack n = (s.reach t).releaseUnit := if_pos (holds.mpr unit)
    rw [given]
    exact State.testGrant_grants _
  case none => exact if_neg fun h => none_ (holds.mp h)
  all_goals refine expiry_to rfl rfl timer released (ends.trans ?_)
  case rdy => rw [State.selfEnd_rdy h, port]
  case call => rw [State.selfEnd_call origin seen depth, port, now_, Port.call_eq]
  case callDim => rw [State.selfEnd_call_dim origin seen depth, port, now_, Port.call_eq, Port.wakeReceiver_of_fed rs]; rfl

/-! ## Ready and the deadline -/

section
variable {s : State} {n : PortId} {p : Port} {w : WakeRecord} {now : Nat}

theorem State.hearRdy_of_unheard (h : ∀ w, (s.port n).psc.ps = .waking w →
    w.phase = .self ∨ w.origin = .partner ∨ w.readySeen = true) : s.hearRdy n = s := by
  unfold State.hearRdy
  simp only
  split
  · split
    · rename_i w phase
      obtain ⟨ps, phase⟩ := PS.eq_waking_of_partnerPhase phase
      refine if_neg fun k => ?_
      obtain self | partner | seen := h w ps
      · simp [self] at phase
      · simp [partner] at k
      · simp [seen] at k
    · rfl
  · rfl

theorem State.hearRdy_of_heard (o : (s.port n).HearsAlr) (ps : (s.port n).psc.ps = .waking w) (phase : w.phase = .partner)
    (origin : w.origin = .localEnd) (seen : w.readySeen = false) : s.hearRdy n =
      let u := s.modPort n (Port.setPs (.waking { w with readySeen := true }))
      if w.waitTimer.isNone then u.endWake n else u := by
  refine (if_pos o).trans ?_
  rw [ps, PS.partnerPhase_waking phase]
  exact if_pos ⟨origin, seen⟩

/-- The deadline of a wake passed (R58). -/
theorem State.wakeFailed_of_waking (ps : (s.port n).psc.ps = .waking w) : s.wakeFailed n = (s.setPort n
    (((s.port n).setPs (.waking { w with deadlineTimer := none })).wakeMissed s.now)).restartOrder n := by
  rw [State.wakeFailed, ps]
  rfl

end

/-- Settles O26: RDY by the phase of the wake, and the deadline by the link. -/
theorem rdyOrDeadlineDecidesWake : Obligations.RdyOrDeadlineDecidesWake := by
  intro n s t released p observed now failed
  have failed_eq (w : WakeRecord) : (p.setPs (.waking { w with deadlineTimer := none })).wakeMissed now = failed w :=
    Port.wakeMissed_eq ..
  have link (w : WakeRecord) : (failed w).lpe = p.lpe := Port.failure_link ..
  have fails (w : WakeRecord) (ps : p.psc.ps = .waking w) :
      (s.reach t).wakeFailed n = ((s.reach t).setPort n (failed w)).restartOrder n := by
    rw [← failed_eq]; exact State.wakeFailed_of_waking (s := s.reach t) ps
  refine ⟨fun o => ?deaf, fun h => ?unheard, fun w o ps phase origin seen => ⟨fun timer => ?waits, fun timer => ?ends⟩,
    fun w ps timer up => ?up, fun w ps timer off => ?off⟩
  case deaf => exact exec_to rfl released (if_neg o)
  case unheard => exact exec_to rfl released (State.hearRdy_of_unheard h)
  case waits =>
    refine exec_to rfl released ((State.hearRdy_of_heard o ps phase origin seen).trans (if_neg ?_))
    rwa [Option.isNone_iff_eq_none]
  case ends =>
    refine exec_to rfl released ((State.hearRdy_of_heard o ps phase origin seen).trans ((if_pos ?_).trans ?_))
    · rw [timer]; rfl
    · exact State.endWake_modPort_setPs ..
  case up =>
    have timer : p.psc.ps.deadlineTimer = some t := by rw [ps]; exact timer
    refine expiry_to rfl rfl timer released ((fails w ps).trans ?_)
    exact State.restartOrder_setPort_up (by rw [link]; exact up)
  case off =>
    have timer : p.psc.ps.deadlineTimer = some t := by rw [ps]; exact timer
    refine expiry_to rfl rfl timer released ((fails w ps).trans ?_)
    exact State.restartOrder_setPort_off (by rw [link]; exact off)

/-! ## The timers of the power state -/

section
variable {s : State} {n : PortId} {p : Port}

theorem Port.link_of_eligible {d : SleepDepth} (h : p.eligible d = true) : p.lpe.link = .up := by
  unfold Port.eligible at h
  simp only [Bool.and_eq_true, beq_iff_eq] at h
  exact h.1.1.1

theorem State.idleExpiry_of_active (ps : (s.port n).psc.ps = .active) : s.idleExpiry n =
    let p := s.port n
    let dim : Port := { p with
      psc := { p.psc with ps := .dim, idleTimer := none, deepTimer := some (s.now + p.cfg.deepIdle.toNat) } }
    if p.eligible .dim then
      if p.psc.hasOffer .deep && p.eligible .deep then ((s.setPort n dim).modPort n (Port.say .ofd)).enterDeep n
      else (s.setPort n dim).wakeCheck n
    else s.setPort n { p with psc := { p.psc with idleTimer := some (s.now + p.cfg.dimIdle.toNat) } } := by
  unfold State.idleExpiry
  simp only [State.modPort, State.port_setPort_same, State.setPort_setPort, State.setPort_now]
  exact if_pos ps

theorem State.deepExpiry_of_dim (ps : (s.port n).psc.ps = .dim) : s.deepExpiry n =
    let p := s.port n
    let stopped : Port := { p with psc := { p.psc with deepTimer := none } }
    if p.eligible .deep then
      (s.setPort n (((stopped.say .ofd).setPs .offerDeep).startOfferTimer s.now)).wakeCheck n
    else s.setPort n (stopped.startDeepTimer s.now) := by
  unfold State.deepExpiry
  simp only [State.modPort, State.port_setPort_same, State.setPort_setPort, State.setPort_now]
  exact if_pos ps

end

/-- Settles O28, by eligibility and the partner's offer. -/
theorem idleAndDeepExpiriesDescend : Obligations.IdleAndDeepExpiriesDescend := by
  intro n s t released p now offered
  have record : p.psc.hasOffer .deep = true ↔ offered := Psc.hasOffer_iff ..
  refine ⟨fun timer ps poor => ?_, fun timer ps fit alone => ?_, fun timer ps fit offer deep => ?_,
    fun timer ps poor => ?_, fun timer ps fit => ?_⟩ <;> refine expiry_to rfl rfl timer released ?_
  · exact (State.idleExpiry_of_active (s := s.reach t) ps).trans (if_neg (by simpa using poor))
  · refine (State.idleExpiry_of_active (s := s.reach t) ps).trans ((if_pos fit).trans (if_neg ?_))
    rw [Bool.and_eq_true]
    exact fun h => alone ⟨record.mp h.1, h.2⟩
  · refine (State.idleExpiry_of_active (s := s.reach t) ps).trans ((if_pos fit).trans ((if_pos ?_).trans ?_))
    · rw [Bool.and_eq_true]
      exact ⟨record.mpr offer, deep⟩
    · refine (State.say_enterDeep ?_).trans ?_
      · rw [State.port_setPort_same]; exact Port.link_of_eligible fit
      · rw [State.setPort_setPort, State.port_setPort_same]; rfl
  · exact (State.deepExpiry_of_dim (s := s.reach t) ps).trans (if_neg (by simpa using poor))
  · refine (State.deepExpiry_of_dim (s := s.reach t) ps).trans ((if_pos fit).trans ?_)
    refine congrArg (State.wakeCheck n) (State.setPort_congr ?_)
    have sent : said p.lpe.link .ofd = [.word .ofd] := if_pos (Port.link_of_eligible fit)
    rw [Port.say_eq, ← sent]
    rfl

section
variable {s : State} {n : PortId} {p : Port} {now : Nat}

theorem Port.offerTimedOut_eq (now : Nat) (p : Port) : p.offerTimedOut now = Port.failure now { p with
    counters := { p.counters with offerTimeout := satAdd p.counters.offerTimeout 1 } } := by
  simp [Port.offerTimedOut, Port.count, Counters.bump, satInc_eq_satAdd]

theorem State.offerExpiry_of_offerDeep (ps : (s.port n).psc.ps = .offerDeep) : s.offerExpiry n =
    (s.setPort n (Port.offerTimedOut s.now { s.port n with psc := { (s.port n).psc with
      ps := .dim, offerTimer := none, deepTimer := some (s.now + (s.port n).cfg.deepIdle.toNat) } })).wakeCheck n := by
  unfold State.offerExpiry
  simp only [State.modPort, State.port_setPort_same, State.setPort_setPort, State.setPort_now, ps]
  rfl

theorem State.offerExpiry_of_offerDormant (ps : (s.port n).psc.ps = .offerDormant) : s.offerExpiry n =
    (s.setPort n (Port.offerTimedOut s.now { s.port n with psc := { (s.port n).psc with
      ps := .deep, offerTimer := none
      dormantTimer := some (s.now + (s.port n).cfg.dormantIdle.toNat * 1000) } })).wakeCheck n := by
  unfold State.offerExpiry
  simp only [State.modPort, State.port_setPort_same, State.setPort_setPort, State.setPort_now, ps]
  rfl

theorem State.dormantExpiry_of_deep (ps : (s.port n).psc.ps = .deep) : s.dormantExpiry n =
    let p := s.port n
    let stopped : Port := { p with psc := { p.psc with dormantTimer := none } }
    if p.eligible .dormant then
      if p.psc.hasOffer .dormant then ((s.setPort n stopped).modPort n (Port.say .ofm)).enterDormant n
      else (s.setPort n (((stopped.say .ofm).setPs .offerDormant).startOfferTimer s.now)).wakeCheck n
    else s.setPort n (stopped.startDormantTimer s.now) := by
  unfold State.dormantExpiry
  simp only [State.modPort, State.port_setPort_same, State.setPort_setPort, State.setPort_now]
  exact if_pos ps

end

/-- Settles O29, by power state, eligibility and the partner's offer. -/
theorem offerAndDormantExpiriesDescend : Obligations.OfferAndDormantExpiriesDescend := by
  intro n s t released p now offered counted
  have record : p.psc.hasOffer .dormant = true ↔ offered := Psc.hasOffer_iff ..
  refine ⟨fun timer ps => ?_, fun timer ps => ?_, fun timer ps poor => ?_, fun timer ps fit offer => ?_,
    fun timer ps fit alone => ?_⟩ <;> refine expiry_to rfl rfl timer released ?_
  · rw [State.offerExpiry_of_offerDeep (s := s.reach t) ps, Port.offerTimedOut_eq]; rfl
  · rw [State.offerExpiry_of_offerDormant (s := s.reach t) ps, Port.offerTimedOut_eq]; rfl
  · exact (State.dormantExpiry_of_deep (s := s.reach t) ps).trans (if_neg (by simpa using poor))
  · refine (State.dormantExpiry_of_deep (s := s.reach t) ps).trans ((if_pos fit).trans ((if_pos (record.mpr offer)).trans ?_))
    refine (State.say_enterDormant ?_).trans ?_
    · rw [State.port_setPort_same]; exact Port.link_of_eligible fit
    · rw [State.setPort_setPort, State.port_setPort_same]; rfl
  · refine (State.dormantExpiry_of_deep (s := s.reach t) ps).trans
      ((if_pos fit).trans ((if_neg fun h => alone (record.mp h)).trans ?_))
    refine congrArg (State.wakeCheck n) (State.setPort_congr ?_)
    have sent : said p.lpe.link .ofm = [.word .ofm] := if_pos (Port.link_of_eligible fit)
    rw [Port.say_eq, ← sent]
    rfl

/-- Settles O30, expiry by expiry. -/
theorem singleEffectExpiries : Obligations.SingleEffectExpiries := by
  intro n s t released p
  refine ⟨fun depth offer => ?lapse, fun cause revival => ?revived, fun timer => ?release, fun timer => ?urgency⟩
  case lapse =>
    exact expiry_to (f := fun s => s.modPort n (Port.setOffer none)) rfl rfl (timer := p.psc.offer.map (·.expiry))
      (by rw [offer]; rfl) released rfl
  case revived =>
    refine expiry_to (f := fun s => s.modPort n Port.revived) rfl rfl (timer := p.psc.revival.map (·.expiry))
      (by rw [revival]; rfl) released (State.setPort_congr ?_)
    rw [Port.revived, Port.say_eq]
    rfl
  case release => exact expiry_to rfl rfl timer released rfl
  case urgency => exact expiry_to rfl rfl timer released rfl

end Sys2Proof.Machine
end

section
/-! Frames received on the line (R13, R14, R16, R88 to R92). -/

-- One theorem at a time: their elaboration side by side would each hold a thread and its stack.
set_option Elab.async false

namespace Sys2Proof.Machine

/-! ## Words and bytes -/

theorem beWord_eq_iff (hi lo : Byte) (c : BitVec 16) :
    beWord hi lo = c ↔ hi = c.extractLsb' 8 8 ∧ lo = c.extractLsb' 0 8 := by
  unfold beWord
  constructor
  · rintro rfl
    exact ⟨BitVec.extractLsb'_append_eq_left.symm, BitVec.extractLsb'_append_eq_right.symm⟩
  · rintro ⟨rfl, rfl⟩
    ext i hi
    rw [BitVec.getElem_append]
    split
    · rw [BitVec.getElem_extractLsb', Nat.zero_add, BitVec.getLsbD_eq_getElem (by omega)]
    · rw [BitVec.getElem_extractLsb', Nat.add_sub_cancel' (by omega), BitVec.getLsbD_eq_getElem (by omega)]

/-- The fields of a frame word (R188). -/
theorem frameWord_fields (length : BitVec 16) (tag : Byte) (mark : Bool) :
    (frameWord length tag mark).extractLsb' 0 12 = length.setWidth 12 ∧
      (frameWord length tag mark).extractLsb' 16 8 = tag ∧ (frameWord length tag mark).getLsbD 31 = mark := by
  unfold frameWord place bit1
  refine ⟨?_, ?_, ?_⟩
  · ext i hi
    have h32 : i < 32 := by omega
    have h31 : i < 31 := by omega
    have h16 : i < 16 := by omega
    simp [hi, h32, h31, h16]
  · ext i hi
    have h32 : 16 + i < 32 := by omega
    have h31 : 16 + i < 31 := by omega
    simp [h32, h31, BitVec.getLsbD_eq_getElem hi]
  · simp

/-! ## The start of a frame -/

section
variable {p : Port} {now : Nat} {type : Byte} {header : Option RxHeader}

/-- The frame that was unfinished broken off, and one more management frame discarded where `mgmt` says so (R13). -/
def Port.broken (p : Port) (rx : RxFrame) (mgmt : Nat) (out : List EgressTx) : Port := { p with
  ssp := { p.ssp with rx := some rx }
  egressOut := p.egressOut ++ cutWords p.ssp.rx ++ out
  counters := { p.counters with
    rxErr := satAdd p.counters.rxErr (delivering p.ssp.rx).toNat
    mgmtDiscard := satAdd p.counters.mgmtDiscard ((if p.ssp.rx = some .management then 1 else 0) + mgmt) } }

theorem Port.hearFrameStart_of_deaf (deaf : p.Deaf) : p.hearFrameStart now type header = p := by
  unfold Port.hearFrameStart
  split
  · rename_i up
    obtain rs | rs := deaf.resolve_left fun off => off up <;> rw [rs]
  · rfl

theorem Port.hearFrameStart_listen (up : p.lpe.link = .up) (rs : p.psc.rs = .listen) :
    p.hearFrameStart now type header = roused now p := by
  rw [Port.hearFrameStart, if_pos up, rs]
  exact Port.unannounced_eq ..

theorem Port.hearFrameStart_awake (up : p.lpe.link = .up) (rs : p.psc.rs = .awake) :
    p.hearFrameStart now type header = p.sortFrame type header := by
  rw [Port.hearFrameStart, if_pos up, rs]

theorem Port.sortFrame_data (h : RxHeader) : p.sortFrame 1 (some h) =
    { p.broken (.data (some h) 0 (crcBytes crcInit (dataHeaderBytes h.length h.tag))) 0
        [.opening (frameWord h.length h.tag false)] with psc := { p.psc with offer := none } } := by
  rw [Port.sortFrame, Port.breakRx_eq]
  rfl

theorem Port.sortFrame_headless : p.sortFrame 1 none =
    { p.broken (.data none 0 crcInit) 0 [] with psc := { p.psc with offer := none } } := by
  rw [Port.sortFrame, Port.breakRx_eq, Port.broken, List.append_nil]
  rfl

theorem Port.sortFrame_management (h : type = 2 ∨ type = 3) : p.sortFrame type header = p.broken .management 0 [] := by
  have data : type ≠ typeData := by rintro rfl; revert h; decide
  rw [Port.sortFrame, Port.breakRx_eq, Port.broken, List.append_nil]
  exact (if_neg data).trans (if_pos h)

theorem Port.sortFrame_unknown (h : type = 0 ∨ 3 < type.toNat) : p.sortFrame type header = p.broken .ignored 1 [] := by
  have known (k : Byte) (pos : k ≠ 0) (small : k.toNat ≤ 3) : type ≠ k := by
    rintro rfl
    obtain zero | big := h
    · exact pos zero
    · omega
  have data : type ≠ typeData := known _ (by decide) (by decide)
  have mgmt : ¬ (type = typeAdvert ∨ type = typeEcho) := by
    rw [not_or]
    exact ⟨known _ (by decide) (by decide), known _ (by decide) (by decide)⟩
  rw [Port.sortFrame, Port.breakRx_eq, Port.broken, List.append_nil]
  refine (if_neg data).trans ((if_neg mgmt).trans ?_)
  simp only [Port.count, Counters.bump, satInc_eq_satAdd, satAdd_satAdd]
  rfl

end

/-- Settles O31, by receive state and type byte. -/
theorem frameStartSorted : Obligations.FrameStartSorted := by
  intro n type header s released p broken
  refine ⟨fun deaf => ?_, fun up rs => ?_, fun up rs data h known => ?_, fun up rs data none_ => ?_, fun up rs mgmt => ?_,
    fun up rs other => ?_⟩
  · exact exec_to rfl released (State.setPort_eq_self (Port.hearFrameStart_of_deaf deaf))
  · exact exec_to rfl released (State.setPort_congr (Port.hearFrameStart_listen up rs))
  · subst data known
    exact exec_to rfl released (State.setPort_congr ((Port.hearFrameStart_awake up rs).trans (Port.sortFrame_data h)))
  · subst data none_
    exact exec_to rfl released (State.setPort_congr ((Port.hearFrameStart_awake up rs).trans Port.sortFrame_headless))
  · exact exec_to rfl released
      (State.setPort_congr ((Port.hearFrameStart_awake up rs).trans (Port.sortFrame_management mgmt)))
  · exact exec_to rfl released
      (State.setPort_congr ((Port.hearFrameStart_awake up rs).trans (Port.sortFrame_unknown other)))

/-! ## Bytes and the end of a frame -/

section
variable {p : Port} {b : Byte} {e : RxEnd} {h : RxHeader} {count : Nat} {check : BitVec 16}

theorem Port.closeWithError_eq (header : Option RxHeader) (p : Port) : p.closeWithError header = { p with
    egressOut := p.egressOut ++ closingWords header true
    counters := { p.counters with rxErr := satAdd p.counters.rxErr 1 } } := by
  simp [Port.closeWithError, Port.count, Counters.bump, satInc_eq_satAdd, Port.deliver]

theorem Port.hearDataByte_of_room (rx : p.ssp.rx = some (.data (some h) count check)) (room : count < 2048) :
    p.hearDataByte b = (p.deliver [.byte b]).setRx (some (.data (some h) (count + 1) (crcByte check b))) := by
  rw [Port.hearDataByte, rx]
  exact if_pos room

theorem Port.hearDataByte_of_full (rx : p.ssp.rx = some (.data (some h) count check)) (full : 2048 ≤ count) :
    p.hearDataByte b = (p.closeWithError (some h)).setRx (some .ignored) := by
  rw [Port.hearDataByte, rx]
  exact if_neg (Nat.not_lt.mpr full)

theorem Port.hearDataByte_of_other (other : ∀ h count check, p.ssp.rx ≠ some (.data (some h) count check)) :
    p.hearDataByte b = p := by
  unfold Port.hearDataByte
  split <;> first | rfl | exact absurd ‹_› (other _ _ _)

theorem rxIntact_iff : rxIntact e check = true ↔ e = .normal (check.extractLsb' 8 8) (check.extractLsb' 0 8) := by
  cases e <;> simp [rxIntact, beWord_eq_iff]

/-- A DATA frame that closes clean (R16). -/
def ClosesClean (h : RxHeader) (e : RxEnd) (count : Nat) (check : BitVec 16) : Prop :=
  e = .normal (check.extractLsb' 8 8) (check.extractLsb' 0 8) ∧ h.length.toNat = count ∧ 64 ≤ count ∧ count ≤ 2048

theorem closesClean_iff :
    (rxIntact e check && h.length.toNat == count && lengthInRange h) = true ↔ ClosesClean h e count check := by
  simp only [Bool.and_eq_true, rxIntact_iff, beq_iff_eq, lengthInRange, Config.minLength,
    Config.maxLength, ClosesClean]
  constructor
  · rintro ⟨⟨ends, rfl⟩, low, high⟩; exact ⟨ends, rfl, of_decide_eq_true low, of_decide_eq_true high⟩
  · rintro ⟨ends, rfl, low, high⟩; exact ⟨⟨ends, rfl⟩, decide_eq_true low, decide_eq_true high⟩

/-- The frame in reception ended, with these words and counts. -/
def Port.closed (p : Port) (out : List EgressTx) (rxFrames rxErr mgmt : Nat) : Port := { p with
  ssp := { p.ssp with rx := none }
  egressOut := p.egressOut ++ out
  counters := { p.counters with
    rxFrames := satAdd p.counters.rxFrames rxFrames
    rxErr := satAdd p.counters.rxErr rxErr
    mgmtDiscard := satAdd p.counters.mgmtDiscard mgmt } }

theorem Port.hearFrameEnd_sound (rx : p.ssp.rx = some (.data (some h) count check)) (sound : ClosesClean h e count check) :
    p.hearFrameEnd e = p.closed [.closing (frameWord h.length h.tag false)] 1 0 0 := by
  rw [Port.hearFrameEnd, rx]
  refine (if_pos (closesClean_iff.mpr sound)).trans ?_
  simp [Port.closed, Port.count, Counters.bump, satInc_eq_satAdd, closingWords, Port.deliver, Port.setRx]

theorem Port.hearFrameEnd_unsound (rx : p.ssp.rx = some (.data (some h) count check)) (unsound : ¬ ClosesClean h e count check) :
    p.hearFrameEnd e = p.closed [.closing (frameWord h.length h.tag true)] 0 1 0 := by
  rw [Port.hearFrameEnd, rx]
  refine (if_neg fun sound => unsound (closesClean_iff.mp sound)).trans ?_
  rw [Port.closeWithError_eq]
  simp [Port.closed, closingWords, Port.setRx]

theorem Port.hearFrameEnd_headless (rx : p.ssp.rx = some (.data none count check)) :
    p.hearFrameEnd e = p.closed [.opening (frameWord 0 0 false), .closing (frameWord 0 0 true)] 0 1 0 := by
  rw [Port.hearFrameEnd, rx]
  simp only [Port.closeWithError_eq]
  simp [Port.closed, closingWords, Port.setRx]

theorem Port.hearFrameEnd_management (rx : p.ssp.rx = some .management) : p.hearFrameEnd e = p.closed [] 0 0 1 := by
  rw [Port.hearFrameEnd, rx]
  simp [Port.closed, Port.count, Counters.bump, satInc_eq_satAdd, Port.setRx]

theorem Port.hearFrameEnd_ignored (rx : p.ssp.rx = some .ignored) : p.hearFrameEnd e = p.closed [] 0 0 0 := by
  rw [Port.hearFrameEnd, rx]
  simp [Port.closed, Port.setRx]

theorem Port.hearFrameEnd_outside (rx : p.ssp.rx = none) : p.hearFrameEnd e = p := by
  rw [Port.hearFrameEnd, rx]

end

/-- Settles O32, by the frame in reception. -/
theorem frameDeliveredAndClosed : Obligations.FrameDeliveredAndClosed := by
  intro n b e s released p ends counted closed
  refine ⟨fun h count check rx room => ?_, fun h count check rx full => ?_, fun other => ?_,
    fun h count check rx => ⟨fun sound => ?_, fun unsound => ?_⟩, fun count check rx => ?_, fun rx => ?_, fun rx => ?_,
    fun rx => ?_, frameWord_fields⟩
  · exact exec_to rfl released (State.setPort_congr (Port.hearDataByte_of_room rx room))
  · refine exec_to rfl released (State.setPort_congr ((Port.hearDataByte_of_full rx full).trans ?_))
    rw [Port.closeWithError_eq]
    rfl
  · exact exec_to rfl released (State.setPort_eq_self (Port.hearDataByte_of_other other))
  · exact exec_to rfl released (State.setPort_congr (Port.hearFrameEnd_sound rx sound))
  · exact exec_to rfl released (State.setPort_congr (Port.hearFrameEnd_unsound rx unsound))
  · exact exec_to rfl released (State.setPort_congr (Port.hearFrameEnd_headless rx))
  · exact exec_to rfl released (State.setPort_congr (Port.hearFrameEnd_management rx))
  · exact exec_to rfl released (State.setPort_congr (Port.hearFrameEnd_ignored rx))
  · exact exec_to rfl released (State.setPort_eq_self (Port.hearFrameEnd_outside rx))

/-! ## Management frames -/

section
variable {s : State} {n : PortId} {p : Port} {frame : MgmtFrame} {b : List Byte} {check : BitVec 16}

/-- A management frame with this body and check sequence, most significant byte first (R189). -/
def mgmtFrame (b : List Byte) (check : BitVec 16) : MgmtFrame :=
  { body := b, hi := check.extractLsb' 8 8, lo := check.extractLsb' 0 8 }

theorem checkMatches_iff {type : Byte} :
    checkMatches type (mgmtFrame b check) = true ↔ check = crcBytes 0xFFFF (type :: b) := by
  have whole : beWord (check.extractLsb' 8 8) (check.extractLsb' 0 8) = check := (beWord_eq_iff ..).mpr ⟨rfl, rfl⟩
  unfold checkMatches mgmtFrame
  rw [whole, beq_iff_eq]
  rfl

theorem parseAdvert_of_length (h : b.length ≠ 8) : parseAdvert b = none := by
  unfold parseAdvert
  split
  · exact absurd rfl h
  · rfl

theorem parseEcho_of_length (h : b.length ≠ 1) : parseEcho b = none := by
  unfold parseEcho
  split
  · exact absurd rfl h
  · rfl

theorem soundAdvert_none (h : b.length ≠ 8 ∨ check ≠ crcBytes 0xFFFF (typeAdvert :: b)) :
    soundAdvert (mgmtFrame b check) = none := by
  unfold soundAdvert
  split
  · rename_i m
    exact parseAdvert_of_length (h.resolve_right fun k => k (checkMatches_iff.mp m))
  · rfl

theorem soundEcho_none (h : b.length ≠ 1 ∨ check ≠ crcBytes 0xFFFF (typeEcho :: b)) :
    soundEcho (mgmtFrame b check) = none := by
  unfold soundEcho
  split
  · rename_i m
    exact parseEcho_of_length (h.resolve_right fun k => k (checkMatches_iff.mp m))
  · rfl

/-- The unused bits of the first byte of an ADVERT are ignored, its seq and capability taken (R189). -/
theorem advertByte_fields (seq : BitVec 4) (unused capability : BitVec 2) :
    (seq ++ unused ++ capability).extractLsb' 4 4 = seq ∧ (seq ++ unused ++ capability).extractLsb' 0 2 = capability :=
  ⟨(BitVec.extractLsb'_append_eq_of_le (by decide)).trans BitVec.extractLsb'_append_eq_left,
    BitVec.extractLsb'_append_eq_right⟩

theorem beWord_beBytes (c : BitVec 16) : beWord (c.extractLsb' 8 8) (c.extractLsb' 0 8) = c :=
  (beWord_eq_iff ..).mpr ⟨rfl, rfl⟩

/-- The body of an ADVERT with these fields (R189). -/
def advertBody (seq : BitVec 4) (unused capability : BitVec 2) (dim deep dormant : BitVec 16) (refresh : Byte) : List Byte :=
  [seq ++ unused ++ capability] ++ beBytes dim ++ beBytes deep ++ beBytes dormant ++ [refresh]

theorem soundAdvert_body (seq : BitVec 4) (unused capability : BitVec 2) (dim deep dormant : BitVec 16) (refresh : Byte) :
    let body := advertBody seq unused capability dim deep dormant refresh
    soundAdvert (mgmtFrame body (crcBytes 0xFFFF (typeAdvert :: body))) = some {
      seq := seq, capability := capability, tDim := dim, tDeep := deep, tDormant := dormant, refreshMs := refresh } := by
  obtain ⟨hseq, hcap⟩ := advertByte_fields seq unused capability
  refine (if_pos (checkMatches_iff.mpr rfl)).trans ?_
  change parseAdvert (advertBody ..) = _
  simp only [advertBody, beBytes, List.cons_append, List.nil_append, parseAdvert, hseq, hcap, beWord_beBytes]

theorem soundEcho_body (seq unused : BitVec 4) :
    soundEcho (mgmtFrame [seq ++ unused] (crcBytes 0xFFFF (typeEcho :: [seq ++ unused]))) = some seq :=
  (if_pos (checkMatches_iff.mpr rfl)).trans (congrArg some BitVec.extractLsb'_append_eq_left)

theorem Port.observesFrames_iff : p.observesFrames = true ↔ p.lpe.link = .up ∧ p.psc.rs = .awake := by
  simp [Port.observesFrames]

theorem State.hearAdvert_of_unobserved (h : ¬ ((s.port n).lpe.link = .up ∧ (s.port n).psc.rs = .awake)) :
    s.hearAdvert n frame = s := if_neg fun k => h (Port.observesFrames_iff.mp k)

theorem State.hearAdvert_of_none (o : (s.port n).lpe.link = .up ∧ (s.port n).psc.rs = .awake)
    (sound : soundAdvert frame = none) : s.hearAdvert n frame =
      s.setPort n ((s.port n).endManagement.count .mgmtDiscard) := by
  refine (if_pos (Port.observesFrames_iff.mpr o)).trans ?_
  simp only [sound]
  exact State.modPort_modPort ..

theorem State.hearAdvert_of_some (o : (s.port n).lpe.link = .up ∧ (s.port n).psc.rs = .awake) {a : Advert}
    (sound : soundAdvert frame = some a) : s.hearAdvert n frame =
      if a.acceptable then (s.setPort n ((s.port n).endManagement.takeAdvert a)).afterPending n
      else s.setPort n ((s.port n).endManagement.count .mgmtDiscard) := by
  refine (if_pos (Port.observesFrames_iff.mpr o)).trans ?_
  simp only [sound, State.takeAdvert, State.modPort_modPort]
  rfl

theorem Port.discardFrame_eq (p : Port) : p.endManagement.count .mgmtDiscard = { p with
    ssp := { p.ssp with rx := none }
    egressOut := p.egressOut ++ cutWords p.ssp.rx
    counters := { p.counters with
      rxErr := satAdd p.counters.rxErr (delivering p.ssp.rx).toNat
      mgmtDiscard := satAdd p.counters.mgmtDiscard 1 } } := by
  simp [Port.endManagement_eq, Port.count, Counters.bump, satInc_eq_satAdd]

theorem Port.hearEcho_of_unobserved {now : Nat} (h : ¬ (p.lpe.link = .up ∧ p.psc.rs = .awake)) : p.hearEcho now frame = p :=
  if_neg fun k => h (Port.observesFrames_iff.mp k)

theorem Port.hearEcho_of_none {now : Nat} (o : p.lpe.link = .up ∧ p.psc.rs = .awake) (sound : soundEcho frame = none) :
    p.hearEcho now frame = p.endManagement.count .mgmtDiscard := by
  refine (if_pos (Port.observesFrames_iff.mpr o)).trans ?_
  rw [sound]

theorem Port.hearEcho_of_some {now : Nat} (o : p.lpe.link = .up ∧ p.psc.rs = .awake) {seq : BitVec 4}
    (sound : soundEcho frame = some seq) : p.hearEcho now frame =
      if p.endManagement.adu.state = .pending ∧ seq = p.endManagement.adu.seq then p.endManagement.echoed.idleUpdate now
      else p.endManagement := by
  refine (if_pos (Port.observesFrames_iff.mpr o)).trans ?_
  rw [sound]

/-- The echo timer of a pending exchange (R89). -/
theorem State.echoExpiry_of_pending (state : (s.port n).adu.state = .pending) : s.echoExpiry n =
    if (s.port n).adu.retry < 3 then (s.setPort n (s.port n).stopEcho.retryAdvert).afterPending n
    else s.setPort n ((s.port n).stopEcho.advertFailed.idleUpdate s.now) := by
  unfold State.echoExpiry
  simp only [State.modPort, State.port_setPort_same, State.setPort_setPort, State.setPort_now]
  exact if_pos state

theorem Advert.acceptable_iff (a : Advert) : a.acceptable = true ↔ 1 ≤ a.tDim.toNat ∧ a.tDim.toNat ≤ a.tDeep.toNat ∧
    a.tDeep.toNat ≤ a.tDormant.toNat ∧ 1 ≤ a.refreshMs.toNat ∧ a.refreshMs.toNat ≤ 100 := by
  simp [Advert.acceptable, and_assoc]

/-- A selection at a port that is not in ACTIVE changes only the idle timer, which does not run (R23, R125). -/
theorem State.settle_of_asleep (ps : (s.port n).psc.ps ≠ .active) :
    s.settle n = s.setPort n { s.port n with psc := { (s.port n).psc with idleTimer := none } } := by
  have kept : s.select n = s := State.select_of_not_free fun free => ps free.1
  unfold State.settle
  simp only [kept]
  refine State.setPort_congr ?_
  rw [Port.idleUpdate, if_neg fun quiet => ps (Port.quiet_iff.mp quiet).1]

/-- A wake cause that meets DIM or OFFER-DEEP: the port begins its LOCAL wake, which no selection changes (R27, R41, R48). -/
theorem State.port_afterPending_of_feed (cause : (s.port n).Cause)
    (ps : (s.port n).psc.ps = .dim ∨ (s.port n).psc.ps = .offerDeep) : ((s.wakeCheck n).settle n).port n =
      (s.port n).beginLocal s.now .dim (if (s.port n).psc.ps = .offerDeep then .deep else .dim) false := by
  have wakes : s.wakeCheck n = s.setPort n
      ((s.port n).beginLocal s.now .dim (if (s.port n).psc.ps = .offerDeep then .deep else .dim) false) := by
    rw [State.wakeCheck_of_cause cause]
    obtain ps | ps := ps <;> rw [ps] <;> rfl
  rw [wakes, Port.beginLocal_eq, State.settle_of_asleep, State.port_setPort_same, State.port_setPort_same]
  · rfl
  · rw [State.port_setPort_same]; nofun

end

/-- Settles O33: what a sound ADVERT is (`soundAdvert_body`), and what follows from it by its validity. -/
theorem advertReplacesPartner : Obligations.AdvertReplacesPartner := by
  intro n seq unused capability dim deep dormant refresh other check s released p receive crc body valid q discarded
    observed taken woken wait
  have heard (b : List Byte) (c : BitVec 16) : receive b c = .next (s.hearAdvert n (mgmtFrame b c)) :=
    exec_of_released rfl released
  have sound := soundAdvert_body seq unused capability dim deep dormant refresh
  have ok : (⟨seq, capability, dim, deep, dormant, refresh⟩ : Advert).acceptable = true ↔ valid := Advert.acceptable_iff _
  refine ⟨fun o => ?deaf, fun o bad => ?bad, fun o invalid => ?invalid, fun o v => ?valid, fun ps => ?wakes⟩
  case deaf => rw [heard, State.hearAdvert_of_unobserved o]
  case bad =>
    rw [heard, State.hearAdvert_of_none o (soundAdvert_none bad), Port.discardFrame_eq]
  case invalid =>
    rw [heard]
    refine congrArg Host.Outcome.next ((State.hearAdvert_of_some o sound).trans ((if_neg fun h => invalid (ok.mp h)).trans ?_))
    rw [Port.discardFrame_eq]
  case valid =>
    rw [heard]
    refine congrArg Host.Outcome.next ((State.hearAdvert_of_some o sound).trans ((if_pos (ok.mpr v)).trans ?_))
    rw [Port.endManagement_eq]
    rfl
  case wakes =>
    have port : taken.port n = _ := State.port_setPort_same ..
    have cause : (taken.port n).Cause := by rw [port]; exact .inr (.inr (.inl nofun))
    have wakes : woken.port n = _ := State.port_afterPending_of_feed cause (by rw [port]; exact ps)
    rw [port, Port.beginLocal_eq] at wakes
    intro u
    have u_eq : u = _ := wakes
    rw [u_eq]
    exact ⟨rfl, rfl, rfl, _, rfl, rfl, rfl, rfl, rfl, rfl, rfl⟩

/-- Settles O34, ECHO by ECHO and then the timer by its retries. -/
theorem echoOrTimeoutMovesExchange : Obligations.EchoOrTimeoutMovesExchange := by
  intro n seq unused other check t s released p receive crc body q observed
  have heard (b : List Byte) (c : BitVec 16) :
      receive b c = .next (s.setPort n ((s.port n).hearEcho s.now (mgmtFrame b c))) := exec_of_released rfl released
  have sound := soundEcho_body seq unused
  refine ⟨fun o => ?deaf, fun o bad => ?bad, fun o state seq_ => ?echoed, fun o h => ?ignored, fun timer state few => ?retry,
    fun timer state many => ?failed⟩
  case deaf => rw [heard, Port.hearEcho_of_unobserved o, State.setPort_self]
  case bad => rw [heard, Port.hearEcho_of_none o (soundEcho_none bad), Port.discardFrame_eq]
  case echoed =>
    rw [heard]
    refine congrArg Host.Outcome.next (State.setPort_congr ((Port.hearEcho_of_some o sound).trans ?_))
    rw [Port.endManagement_eq]
    exact if_pos ⟨state, seq_⟩
  case ignored =>
    rw [heard]
    refine congrArg Host.Outcome.next (State.setPort_congr ((Port.hearEcho_of_some o sound).trans ?_))
    rw [Port.endManagement_eq]
    exact if_neg fun k => h.elim (fun h => h k.1) fun h => h k.2
  case retry =>
    refine expiry_to rfl rfl timer released ((State.echoExpiry_of_pending (s := s.reach t) state).trans ((if_pos few).trans ?_))
    rfl
  case failed =>
    refine expiry_to rfl rfl timer released
      ((State.echoExpiry_of_pending (s := s.reach t) state).trans ((if_neg (Nat.not_lt.mpr many)).trans ?_))
    rfl

end Sys2Proof.Machine
end

section
/-! The system stream port and the frames on the line (R12, R100 to R114). -/

-- One theorem at a time: their elaboration side by side would each hold a thread and its stack.
set_option Elab.async false

namespace Sys2Proof.Machine

/-! ## Levels a port gives out -/

section
variable {s : State} {n : PortId} {p : Port}

/-- What a frame of `k` cells of port n would find in use beyond the reserves (R101). -/
theorem State.sharedWith_eq (s : State) (n : PortId) (k : Nat) : s.sharedWith n k = (allPorts.map fun m =>
    (if m = n then (s.port m).heldCells + k else (s.port m).heldCells) - (s.port m).cfg.reserve.toNat).sum := by
  unfold State.sharedWith
  congr 1
  refine List.map_congr_left fun m _ => ?_
  split <;> rfl

theorem State.admissionTest_eq_false_iff (s : State) (n : PortId) (k : Nat) : s.admissionTest n k = false ↔
    (s.port n).cfg.cap.toNat < (s.port n).heldCells + k ∨ 4096 - s.sumReserves < s.sharedWith n k ∨
      128 ≤ (s.port n).txq.queue.length := by
  simp only [State.admissionTest, Bool.and_eq_false_iff, decide_eq_false_iff_not, Nat.not_le, Nat.not_lt, or_assoc]
  rfl

theorem State.holdoff_iff (s : State) (n : PortId) : s.holdoff n = true ↔ (s.port n).lpe.link = .up ∧
    ((s.port n).txq.flush ≠ none ∨ s.admissionTest n 16 = false) := by
  simp [State.holdoff, Option.isSome_iff_ne_none, Config.largestCells]

theorem Port.fill_dim_iff : p.fill = some .dim ↔ p.lpe.link = .up ∧
    (p.psc.ps = .dim ∨ p.psc.ps = .offerDeep ∨ ∃ w, p.psc.ps = .waking w ∧ w.phase = .self ∧ w.selfDepth = .dim) := by
  unfold Port.fill
  cases p.lpe.link with
  | down => simp
  | acquiring => simp
  | restart => simp
  | up =>
    cases p.psc.ps with
    | waking w => cases h : w.phase <;> simp [h]
    | _ => simp

theorem Port.fill_idl_iff : p.fill = some .idl ↔
    (p.lpe.link = .up ∧ (p.psc.ps = .active ∨ ∃ w, p.psc.ps = .waking w ∧ w.phase = .partner)) ∨
      p.lpe.link = .acquiring ∨ (p.lpe.link = .down ∧ p.cfg.enable = true) := by
  unfold Port.fill
  cases p.lpe.link with
  | down => simp
  | acquiring => simp
  | restart => simp
  | up =>
    cases p.psc.ps with
    | waking w => cases h : w.phase <;> simp [h]
    | _ => simp

end

/-- Settles O35, level by level. -/
theorem portOutputLevels : Obligations.PortOutputLevels := by
  intro n s p cells reserves shared
  have shared_eq : s.sharedWith n 16 = shared := State.sharedWith_eq s n 16
  refine ⟨?_, beq_iff_eq, Port.fill_dim_iff, Port.fill_idl_iff⟩
  rw [State.holdoff_iff, State.admissionTest_eq_false_iff, shared_eq]
  rfl

/-! ## The end of a frame in progress -/

section
variable {s : State} {n : PortId} {p : Port} {g : Ingress} {before : List Descriptor} {d : Descriptor}

/-- The FILLING descriptor of a queue is its tail (R112). -/
theorem Txq.fillingIdx_of_tail {q : Txq} (queue : q.queue = before ++ [d]) (state : d.state = .filling)
    (others : ∀ x ∈ before, x.state ≠ .filling) : q.fillingIdx = some before.length := by
  have none_ : before.findIdx? (fun x => x.state == .filling) = none := by
    rw [List.findIdx?_eq_none_iff]
    exact fun x hx => by simpa using others x hx
  rw [Txq.fillingIdx, queue, List.findIdx?_append, none_, List.findIdx?_cons]
  simp [state]

theorem State.abortFilling_of_idx {i : Nat} (idx : (s.port n).txq.fillingIdx = some i) :
    s.abortFilling n = ((s.removeAt n i .discAbort).withdrawCheck n).settle n := by
  rw [State.abortFilling, idx]
  rfl

theorem Port.abortBypass_eq {e : BypassEnd} {check : BitVec 16} (tx : p.lpe.tx = .busy (.bypass e) check) :
    p.abortBypass = { p with
      lpe := { p.lpe with tx := .busy (.bypass .errored) check }
      counters := { p.counters with discAbort := satAdd p.counters.discAbort 1 }
      flags := p.flags ||| BitVec.twoPow 11 8 } := by
  have kept : (p.discard .discAbort).lpe.tx = .busy (.bypass e) check := tx
  unfold Port.abortBypass Port.endBypass
  rw [kept]
  simp [Port.discard, Port.count, Port.raise, Counters.bump, satInc_eq_satAdd, PortFlag.bit, Port.setTx]

theorem State.endEarlier_of_some (ingress : (s.port n).ssp.ingress = some g) : s.endEarlier n =
    match g.route with
    | .queued => s.abortFilling n
    | .bypass => s.modPort n Port.abortBypass
    | .ignore => s := by
  obtain ⟨route, _, _, _⟩ := g
  cases route <;> rw [State.endEarlier, ingress]

end

/-- Settles O36, by the route of the frame in progress. -/
theorem earlierFrameAborted : Obligations.EarlierFrameAborted := by
  intro n s p
  refine ⟨fun ingress => ?none, fun g ingress route => ?ignore, fun g check e ingress route tx => ?bypass,
    fun g before d ingress route queue state others => ?queued⟩
  case none => rw [State.endEarlier, ingress]
  case ignore => rw [State.endEarlier_of_some ingress, route]
  case bypass =>
    rw [State.endEarlier_of_some ingress, route]
    exact State.setPort_congr (Port.abortBypass_eq tx)
  case queued =>
    rw [State.endEarlier_of_some ingress, route]
    exact State.abortFilling_of_idx (Txq.fillingIdx_of_tail queue state others)

/-! ## The start of a frame -/

section
variable {s : State} {n : PortId} {p : Port} {length : Nat} {tag : Byte}

/-- The condition of a frame that no port takes (R106). -/
def Port.Dead (p : Port) : Prop := p.lpe.link ≠ .up ∨ p.cfg.enable = false

/-- The condition of a bypass (R106, R110). -/
def Port.Direct (p : Port) : Prop :=
  p.cfg.latencyMode = .variable ∧ p.psc.ps = .active ∧ p.txq.queue = [] ∧ p.lpe.tx = .idle ∧
    p.adu.advertPending = false ∧ p.adu.echoPending = none

theorem Port.mayBypass_iff : p.mayBypass = true ↔ p.Direct := by
  simp [Port.mayBypass, Port.Direct, Adu.managementPending, and_assoc]

/-- A bypass frame begins, and the idle timer stops (R23, R110). -/
theorem Port.beginBypass_eq (length : Nat) (tag : Byte) (now : Nat) (g : Ingress) (p : Port) :
    ((p.startBypass length tag).setIngress (some g)).idleUpdate now =
      let bytes := dataHeaderBytes (BitVec.ofNat 16 length) tag
      { p with
        lpe := { p.lpe with tx := .busy (.bypass .running) (crcBytes crcInit bytes) }
        psc := { p.psc with idleTimer := none }
        ssp := { p.ssp with ingress := some g }
        counters := { p.counters with
          admitted := satAdd p.counters.admitted 1, txBypass := satAdd p.counters.txBypass 1 }
        lineOut := p.lineOut ++ [.frameStart bytes] } := by
  have started : (p.startBypass length tag).setIngress (some g) =
      let bytes := dataHeaderBytes (BitVec.ofNat 16 length) tag
      { p with
        lpe := { p.lpe with tx := .busy (.bypass .running) (crcBytes crcInit bytes) }
        ssp := { p.ssp with ingress := some g }
        counters := { p.counters with
          admitted := satAdd p.counters.admitted 1, txBypass := satAdd p.counters.txBypass 1 }
        lineOut := p.lineOut ++ [.frameStart bytes] } := by
    simp [Port.startBypass, Port.setIngress, Port.setTx, Port.emit, Port.count, Counters.bump, satInc_eq_satAdd]
  rw [started, Port.idleUpdate, if_neg]
  rw [Port.quiet_iff]
  exact fun quiet => nomatch quiet.2.1

/-- A frame given route IGNORE at its start, with its counter (R106). -/
theorem State.ignoreFrame_eq (n : PortId) (length : Nat) (tag : Byte) (c : Counter) (s : State) :
    s.ignoreFrame n length tag c = s.setPort n { s.port n with
      ssp := { (s.port n).ssp with ingress := some { route := .ignore, length := length, tag := tag, count := 0 } }
      counters := (s.port n).counters.bump c
      flags := (s.port n).flags ||| BitVec.twoPow 11 8 } := rfl

theorem State.decideFrame_dead (dead : (s.port n).Dead) : s.decideFrame n length tag = s.ignoreFrame n length tag .discNolink :=
  if_pos dead

theorem State.decideFrame_alive (alive : ¬ (s.port n).Dead) : s.decideFrame n length tag =
    if s.holdoff n then s.ignoreFrame n length tag .discHoldoff
    else if length < 64 ∨ 2048 < length then s.ignoreFrame n length tag .discAbort
    else if (s.port n).mayBypass then s.modPort n fun p =>
      ((p.startBypass length tag).setIngress (some { route := .bypass, length, tag, count := 0 })).idleUpdate s.now
    else (s.modPort n (Port.setIngress (some { route := .queued, length, tag, count := 0 }))).admitFrame n length tag :=
  if_neg alive

end

/-- Settles O37, by the first condition that holds. -/
theorem ingressFrameDecided : Obligations.IngressFrameDecided := by
  intro n opening s released u p length tag record dead direct bytes
  have decides {t : State} (h : u.decideFrame n length tag = t) : exec (.sspFrameStart n opening) s = .next t :=
    exec_to rfl released h
  refine ⟨fun d => decides ?_, fun a hold => decides ?_, fun a open_ size => decides ?_, fun a open_ low high d => decides ?_,
    fun a open_ low high d => decides ?_⟩
  · rw [State.decideFrame_dead d, State.ignoreFrame_eq]
    simp only [Counters.bump, satInc_eq_satAdd]
    rfl
  · rw [State.decideFrame_alive a, if_pos hold, State.ignoreFrame_eq]
    simp only [Counters.bump, satInc_eq_satAdd]
    rfl
  · rw [State.decideFrame_alive a, open_, if_neg Bool.false_ne_true, if_pos size, State.ignoreFrame_eq]
    simp only [Counters.bump, satInc_eq_satAdd]
    rfl
  · have fits : ¬ (length < 64 ∨ 2048 < length) := by omega
    rw [State.decideFrame_alive a, open_, if_neg Bool.false_ne_true, if_neg fits, if_pos (Port.mayBypass_iff.mpr d)]
    exact State.setPort_congr (Port.beginBypass_eq ..)
  · have fits : ¬ (length < 64 ∨ 2048 < length) := by omega
    rw [State.decideFrame_alive a, open_, if_neg Bool.false_ne_true, if_neg fits,
      if_neg fun h => d (Port.mayBypass_iff.mp h)]
    rfl

/-! ## Admission -/

section
variable {s : State} {n : PortId}

/-- Behind descriptors that are all on the line, a new one is the candidate (R133). -/
theorem deadlineFor_append {queue : List Descriptor} (sent : ∀ x ∈ queue, x.state = .transmitting) (cfg : PortConfig)
    (l : List Descriptor) : deadlineFor cfg (queue ++ l) = deadlineFor cfg l := by
  have none_ : queue.find? (fun d => d.state != .transmitting) = none :=
    List.find?_eq_none.mpr fun x hx => by simp [sent x hx]
  rw [deadlineFor, List.find?_append, none_, Option.none_or]
  rfl

/-- The cells taken, with POOL_LOW where too few are left (R100, R122). -/
theorem State.takeCells_eq (k : Nat) (s : State) : (s.modPool (Pool.takeCells k)).poolLowCheck = { s with
    pool := { s.pool with free := s.pool.free.drop k }
    dev := { s.dev with
      flags := if s.pool.free.length - k < s.pool.low then s.dev.flags ||| BitVec.twoPow 3 0 else s.dev.flags } } := by
  unfold State.poolLowCheck
  have left : (s.modPool (Pool.takeCells k)).pool.free.length = s.pool.free.length - k := List.length_drop
  rw [left]
  split
  · rename_i low
    have low : s.pool.free.length - k < s.pool.low := low
    rw [if_pos low]; rfl
  · rename_i enough
    have enough : ¬ s.pool.free.length - k < s.pool.low := enough
    rw [if_neg enough]; rfl

theorem Port.newDescriptor_eq (now : Nat) (cells : List CellNo) (length : Nat) (tag : Byte) (p : Port) :
    p.newDescriptor now cells length tag = {
      length := length, tag := tag, cells := cells, admission := now, state := .filling, mark := false
      release := if p.cfg.latencyMode = .fixed then some (now + p.cfg.fixedLatency.toNat) else none } := by
  unfold Port.newDescriptor
  cases p.cfg.latencyMode <;> rfl

end

/-- Settles O38: the cells (`State.takeCells_eq`), the descriptor (`Port.append_eq`), and what follows in its order. -/
theorem admissionEffects : Obligations.AdmissionEffects := by
  intro n length tag s p k d queue deadline q u v
  have d_eq : p.newDescriptor s.now (s.pool.free.take k) length tag = d := Port.newDescriptor_eq ..
  have q_eq : p.append d = q := by
    rw [Port.append_eq]
    refine congrArg (fun x => { p with
      txq := { p.txq with queue := queue, agingDeadline := x }
      counters := { p.counters with admitted := satAdd p.counters.admitted 1 } }) ?_
    split
    · rename_i sent; exact (deadlineFor_append sent _ _).trans (if_pos sent).symm
    · rename_i some_; exact (if_neg some_).symm
  have u_eq : ((s.modPool (Pool.takeCells k)).poolLowCheck).modPort n (Port.append d) = u := by
    rw [State.takeCells_eq]
    exact State.setPort_congr q_eq
  have empty : p.txq.queue.isEmpty = true ↔ p.txq.queue = [] := List.isEmpty_iff
  have now_ : v.now = s.now := by
    have head : Same u (if p.txq.queue = [] then u.newHead n else u) := by
      split
      · exact same_newHead ..
      · exact .refl u
    exact ((head.trans (same_promoteCheck ..)).trans (same_wakeCheck ..)).1
  unfold State.admitFrame
  simp only
  rw [show cellsFor length = k from rfl, show (s.port n) = p from rfl, d_eq, u_eq]
  simp only [empty]
  exact State.setPort_congr (congrArg (fun now => (v.port n).idleUpdate now) now_)

/-! ## Ingress bytes -/

section
variable {s : State} {n : PortId} {p : Port} {b : Byte} {g : Ingress} {before : List Descriptor} {d : Descriptor} {e : BypassEnd}
  {check : BitVec 16}

/-- The frame in progress with one byte more. -/
def Port.countByte (g : Ingress) (p : Port) : Port :=
  { p with ssp := { p.ssp with ingress := some { g with count := g.count + 1 } } }

theorem State.ingressByte_beyond (ingress : (s.port n).ssp.ingress = some g) (h : g.length ≤ g.count ∨ g.route = .ignore) :
    s.ingressByte n b = s.modPort n (Port.countByte g) := by
  rw [State.ingressByte, ingress]
  simp only
  split
  · rfl
  · rename_i within
    have route := h.resolve_left within
    split
    · rfl
    · rename_i bypass; rw [route] at bypass; cases bypass
    · rename_i queued; rw [route] at queued; cases queued

theorem State.ingressByte_within (ingress : (s.port n).ssp.ingress = some g) (within : g.count < g.length) :
    s.ingressByte n b =
      let s' := s.modPort n (Port.countByte g)
      match g.route with
      | .ignore => s'
      | .bypass => s'.modPort n (Port.passByte b)
      | .queued =>
          match (s.port n).txq.queue.find? (·.state == .filling) with
          | some d => s'.modPool (Pool.writeByte d.cells g.count b)
          | none => s' := by
  rw [State.ingressByte, ingress]
  exact if_neg (Nat.not_le.mpr within)

theorem Port.passByte_eq (tx : p.lpe.tx = .busy (.bypass e) check) : p.passByte b = { p with
    lpe := { p.lpe with tx := .busy (.bypass e) (crcByte check b) }
    lineOut := p.lineOut ++ [.byte b] } := by
  rw [Port.passByte, tx]
  rfl

theorem find?_filling_of_tail {queue : List Descriptor} (split : queue = before ++ [d]) (state : d.state = .filling)
    (others : ∀ x ∈ before, x.state ≠ .filling) : queue.find? (fun x => x.state == .filling) = some d := by
  have none_ : before.find? (fun x => x.state == .filling) = none :=
    List.find?_eq_none.mpr fun x hx => by simpa using others x hx
  rw [split, List.find?_append, none_, Option.none_or, List.find?_cons_of_pos (by simp [state])]

end

/-- Settles O39, by route; the write is `Memory.read_write`. -/
theorem ingressByteStored : Obligations.IngressByteStored := by
  intro n b s released p
  refine ⟨fun ingress => ?none, fun g ingress => ?some⟩
  case none =>
    refine exec_to rfl released ?_
    rw [State.ingressByte, ingress]
  intro counted
  refine ⟨fun h => ?beyond, fun e check within route tx => ?bypass,
    fun before d c within route queue state others cell wf => ?queued⟩
  case beyond => exact exec_to rfl released (State.ingressByte_beyond ingress h)
  case bypass =>
    refine exec_to rfl released ((State.ingressByte_within ingress within).trans ?_)
    simp only [route, State.modPort_modPort]
    exact State.setPort_congr (Port.passByte_eq (p := p.countByte g) tx)
  case queued =>
    have address : byteAddress d.cells g.count = some (c.val * 128 + g.count % 128) := by
      rw [byteAddress, Config.cellBytes, cell]; rfl
    refine ⟨Memory.write s.pool.data (c.val * 128 + g.count % 128) b, ?_, Memory.wf_write wf (byteAddress_lt address),
      fun a => Memory.read_write wf _ a b⟩
    refine exec_to rfl released ((State.ingressByte_within ingress within).trans ?_)
    have found : (s.port n).txq.queue.find? (fun x => x.state == .filling) = some d :=
      find?_filling_of_tail queue state others
    simp only [route, found, State.modPool, Pool.writeByte, address]
    rfl

/-! ## The end of a frame at the system stream port -/

section
variable {s : State} {n : PortId} {p : Port} {closing : Word} {g : Ingress} {before : List Descriptor} {d : Descriptor}
  {e : BypassEnd} {check : BitVec 16}

/-- A frame that ends well: no abort, as many bytes as its length (R109, R110). -/
def Ingress.EndsWell (g : Ingress) (closing : Word) : Prop := closing.getLsbD 31 = false ∧ g.count = g.length

theorem endsWell_iff : (frameAbort closing || g.count != g.length) = false ↔ g.EndsWell closing := by
  simp [frameAbort, Ingress.EndsWell]

theorem endsBadly_iff : (frameAbort closing || g.count != g.length) = true ↔ ¬ g.EndsWell closing := by
  rw [← endsWell_iff, Bool.not_eq_false]

theorem State.frameEnd_of_some (ingress : (s.port n).ssp.ingress = some g) : s.frameEnd n closing =
    let bad := frameAbort closing || g.count != g.length
    match g.route with
    | .ignore => s.modPort n (Port.setIngress none)
    | .queued => s.endQueued n bad
    | .bypass => s.modPort n fun p => (if bad then p.abortBypass else p.endBypass .clean).setIngress none := by
  obtain ⟨route, _, _, _⟩ := g
  cases route <;> rw [State.frameEnd, ingress]

theorem Port.completeFilling_eq (queue : p.txq.queue = before ++ [d]) : p.completeFilling before.length =
    { p with txq := { p.txq with queue := before ++ [{ d with state := .complete }] } } := by
  rw [Port.completeFilling, queue, modify_at_split]

theorem Port.endBypass_clean (tx : p.lpe.tx = .busy (.bypass e) check) :
    p.endBypass .clean = { p with lpe := { p.lpe with tx := .busy (.bypass .clean) check } } := by
  rw [Port.endBypass, tx]
  rfl

end

/-- Settles O40, by route and ending. -/
theorem ingressFrameEnds : Obligations.IngressFrameEnds := by
  intro n closing s released p ended
  refine ⟨fun ingress => ?none, fun g ingress => ?some⟩
  case none =>
    refine exec_to rfl released ?_
    rw [State.frameEnd, ingress]
  intro good
  refine ⟨fun route => ?ignore, fun e check route tx well => ?clean, fun e check route tx ill => ?errored,
    fun before d route queue state others => ⟨fun well => ?complete, fun ill => ?abort⟩⟩ <;>
    refine exec_to rfl released ((State.frameEnd_of_some ingress).trans ?_)
  case ignore => rw [route]; rfl
  case clean =>
    rw [route, endsWell_iff.mpr well]
    refine State.setPort_congr ?_
    change (p.endBypass .clean).setIngress none = _
    rw [Port.endBypass_clean tx]
    rfl
  case errored =>
    rw [route, endsBadly_iff.mpr ill]
    refine State.setPort_congr ?_
    change p.abortBypass.setIngress none = _
    rw [Port.abortBypass_eq tx]
    rfl
  case complete =>
    rw [route, endsWell_iff.mpr well]
    have idx := Txq.fillingIdx_of_tail queue state others
    simp only [State.endQueued, Bool.false_eq_true, if_false, show (s.port n).txq.fillingIdx = some before.length from idx]
    refine congrArg (State.settle n) (State.setPort_congr ?_)
    change (p.completeFilling before.length).setIngress none = _
    rw [Port.completeFilling_eq queue]
    rfl
  case abort =>
    rw [route, endsBadly_iff.mpr ill]
    have idx := Txq.fillingIdx_of_tail queue state others
    refine (if_pos rfl).trans ?_
    rw [State.abortFilling_of_idx idx]
    rfl

/-! ## The end of a frame on the line -/

/-- Settles O41, by the kind of the frame in flight. -/
theorem transmissionCompletes : Obligations.TransmissionCompletes := by
  intro n s released p sent close frames
  refine ⟨fun tx => ?idle, fun check tx => ?running, fun check tx => ?clean, fun check tx => ?errored,
    fun check d rest tx queue state => ?queued, fun check tx => ?echo, fun check seq tx state seq_ => ?advert,
    fun check seq tx other => ?advertOld⟩ <;> refine exec_to rfl released ?_
  all_goals rw [State.txComplete, tx]
  case clean =>
    refine congrArg (State.settle n) (State.setPort_congr ?_)
    simp only [Port.count, Counters.bump, satInc_eq_satAdd]
    rfl
  case errored => rfl
  case queued =>
    have moved : ((s.port n).finishTx (frameClose check)).txq.queue = d :: rest := queue
    refine congrArg (State.settle n) ?_
    simp only [State.completeHead, State.port_modPort_same, moved, if_pos state, State.modPort_modPort, Port.count,
      Counters.bump, satInc_eq_satAdd]
    rfl
  case echo => rfl
  case advert =>
    refine congrArg (State.settle n) (State.setPort_congr ?_)
    exact if_pos ⟨state, seq_⟩
  case advertOld =>
    refine congrArg (State.settle n) (State.setPort_congr ?_)
    exact if_neg fun h => other.elim (fun k => k h.1) fun k => k h.2

end Sys2Proof.Machine
end

section
/-! Aging, FLUSH, the governor's and the residency timer (R118, R134, R146, R173). -/

-- One theorem at a time: their elaboration side by side would each hold a thread and its stack.
set_option Elab.async false

namespace Sys2Proof.Machine

/-! ## Aging: each removal shortens the queue -/

section
variable {s : State} {n : PortId} {c : Counter}

/-- The number of descriptors of a port. -/
def State.depth (n : PortId) (s : State) : Nat := (s.port n).txq.queue.length

theorem State.depth_testGrant (n : PortId) (s : State) : s.testGrant.depth n = s.depth n := by
  have cells := congrArg List.length (Port.still_testGrant s n).cells
  rwa [List.length_map, List.length_map] at cells

theorem State.depth_modPort {f : Port → Port} (h : (f (s.port n)).txq.queue.length = (s.port n).txq.queue.length) :
    (s.modPort n f).depth n = s.depth n := by
  rw [State.depth, State.port_modPort_same, h]
  rfl

theorem State.depth_promoteCheck (n : PortId) (s : State) : (s.promoteCheck n).depth n = s.depth n := by
  unfold State.promoteCheck
  split
  · exact State.depth_testGrant n (s.modWba _)
  · rfl

theorem State.depth_newHead (n : PortId) (s : State) : (s.newHead n).depth n = s.depth n := by
  have set (release urgency : Option Nat) : (s.modPort n (Port.watching release urgency)).depth n = s.depth n :=
    State.depth_modPort rfl
  rw [State.newHead_eq]
  simp only
  split
  · exact set ..
  · split
    · exact (State.depth_promoteCheck ..).trans (set ..)
    · exact set ..

theorem State.depth_withdrawCheck (n : PortId) (s : State) : (s.withdrawCheck n).depth n = s.depth n := by
  unfold State.withdrawCheck
  split
  · split
    · rfl
    · exact State.depth_modPort (s := s.modWba _) (by split <;> rfl)
  · rfl

theorem Port.txq_idleUpdate (now : Nat) (p : Port) : (p.idleUpdate now).txq = p.txq := by
  unfold Port.idleUpdate
  split
  · split <;> rfl
  · rfl

theorem State.depth_select (n : PortId) (s : State) : (s.select n).depth n = s.depth n := by
  unfold State.select
  simp only
  split
  · split
    · exact State.depth_modPort rfl
    · split
      · exact State.depth_modPort rfl
      · split
        · refine State.depth_modPort ?_
          cases queue : (s.port n).txq.queue with
          | nil => rw [Port.startData, queue]; exact congrArg List.length queue
          | cons d rest => rw [Port.startData_eq queue]; rfl
        · rfl
  · rfl

theorem State.depth_afterRemoval (n : PortId) (s : State) : (s.afterRemoval n).depth n = s.depth n := by
  unfold State.afterRemoval State.settle
  exact (State.depth_modPort (by rw [Port.txq_idleUpdate])).trans
    ((State.depth_select ..).trans (State.depth_withdrawCheck ..))

theorem State.depth_removeAt {i : Nat} {d : Descriptor} (at_ : (s.port n).txq.queue[i]? = some d) :
    (s.removeAt n i c).depth n + 1 = s.depth n := by
  obtain ⟨hi, -⟩ := List.getElem?_eq_some_iff.mp at_
  have shorter : ((s.modPort n (Port.takeOut i d c)).modPool (Pool.freeCells d.cells)).depth n + 1 = s.depth n := by
    have port : ((s.modPort n (Port.takeOut i d c)).modPool (Pool.freeCells d.cells)).port n = (s.port n).takeOut i d c :=
      State.port_modPort_same ..
    rw [State.depth, port, Port.takeOut_eq]
    exact List.length_eraseIdx_add_one hi
  rw [State.removeAt_of_getElem? at_]
  simp only
  split
  · rw [State.depth_newHead]; exact shorter
  · exact shorter

/-- The loop of an aging expiry, with as many rounds as the queue is long, removes every candidate whose deadline the time
base has reached (R134). -/
theorem agingLoop_agedOut (k : Nat) (s : State) (enough : s.depth n ≤ k) : AgedOut n s (agingLoop n k s) := by
  have candidate (u : State) : (u.port n).txq.candidateIdx = (u.port n).txq.queue.findIdx? fun d => d.state != .transmitting :=
    rfl
  induction k generalizing s with
  | zero =>
    refine .stop s fun x i _ idx => ?_
    have empty : (s.port n).txq.queue = [] := List.eq_nil_of_length_eq_zero (Nat.le_zero.mp enough)
    rw [empty] at idx
    cases idx
  | succ k ih =>
    rw [agingLoop]
    split
    · rename_i x i deadline idx
      rw [candidate] at idx
      split
      · rename_i due
        refine .remove s _ x i deadline idx due (ih _ ?_)
        obtain ⟨hi, -⟩ := List.findIdx?_eq_some_iff_getElem.mp idx
        have shorter := State.depth_removeAt (s := s) (c := .discAged) (List.getElem?_eq_getElem hi)
        have kept := State.depth_afterRemoval n (s.removeAt n i .discAged)
        change State.depth n ((s.removeAt n i .discAged).afterRemoval n) ≤ k
        omega
      · rename_i ahead
        refine .stop s fun y j deadline' _ => ?_
        obtain rfl : x = y := Option.some.inj (deadline.symm.trans deadline')
        exact Nat.not_le.mp ahead
    · rename_i none_
      exact .stop s fun x i deadline idx => absurd idx (none_ x i deadline)

end

/-- Settles O42: `agingLoop_agedOut`. -/
theorem agingRemovesCandidates : Obligations.AgingRemovesCandidates := by
  intro n s t released deadline ⟨d, hd, state⟩
  refine ⟨_, agingLoop_agedOut _ (s.reach t) le_rfl, expiry_to rfl rfl deadline released (if_neg ?_)⟩
  rw [Option.isNone_iff_eq_none]
  intro none_
  have sent := List.findIdx?_eq_none_iff.mp none_ d hd
  simp [Descriptor.isTransmitting, state] at sent

/-! ## FLUSH -/

section
variable {s : State} {n : PortId} {p : Port}

theorem Port.done_eq (c : SlotCommand) (p : Port) : p.done c = { p with
    slot := { busy := false, command := c, result := .done, reason := .none }
    flags := p.flags ||| BitVec.twoPow 11 9 } := rfl

theorem State.flush_of_idle (idle : (s.port n).slot.busy = false) : s.flush n =
    if (s.port n).txq.markable = 0 then s.modPort n (Port.done .flush) else s.modPort n (Port.beginFlush s.now) :=
  if_neg (by simp [idle])

theorem Port.beginFlush_eq (now : Nat) (p : Port) : p.beginFlush now = { p with
    txq := { p.txq with
      queue := p.txq.queue.map fun d => if d.state = .transmitting then d else { d with mark := true }
      flush := some { left := p.txq.markable, next := now + 1 } }
    slot := { busy := true, command := .flush, result := .inProgress, reason := .none } } := by
  have marks (d : Descriptor) : (if d.isTransmitting = true then d else { d with mark := true }) =
      if d.state = .transmitting then d else { d with mark := true } := by
    simp [Descriptor.isTransmitting]
  simp only [Port.beginFlush, marks]
  rfl

/-- The oldest marked descriptor of a queue (R118). -/
theorem findIdx?_mark_of_split {queue before after : List Descriptor} {d : Descriptor} (split : queue = before ++ d :: after)
    (mark : d.mark = true) (others : ∀ x ∈ before, x.mark = false) : queue.findIdx? (·.mark) = some before.length := by
  have none_ : before.findIdx? (·.mark) = none := List.findIdx?_eq_none_iff.mpr others
  rw [split, List.findIdx?_append, none_, List.findIdx?_cons]
  simp [mark]

/-- One removal of a FLUSH with a marked descriptor (R118). -/
theorem State.flushDue_of_idx {i : Nat} (idx : (s.port n).txq.queue.findIdx? (·.mark) = some i) : s.flushDue n =
    (((s.setPort n ((s.port n).scheduleRemoval s.now)).removeAt n i .discFlush).withdrawCheck n).settle n := by
  have same : ((s.port n).scheduleRemoval s.now).txq.queue.findIdx? (·.mark) = some i := idx
  unfold State.flushDue
  simp only [State.port_modPort_same, same]
  rfl

end

/-- Settles O43: the marking by what is markable, then one removal. -/
theorem flushMarksThenRemoves : Obligations.FlushMarksThenRemoves := by
  intro n s released p others
  have markable : p.txq.markable = others.length := rfl
  refine ⟨fun idle none_ => ?none, fun idle some_ => ?some, fun f before d after flush queue mark others_ => ?removal⟩
  case none =>
    exact exec_to rfl released ((State.flush_of_idle idle).trans (if_pos (by rw [markable, none_]; rfl)))
  case some =>
    have pos : ¬ p.txq.markable = 0 := by rwa [markable, List.length_eq_zero_iff]
    exact exec_to rfl released ((State.flush_of_idle idle).trans ((if_neg pos).trans
      (State.setPort_congr (Port.beginFlush_eq ..))))
  case removal =>
    have scheduled : p.scheduleRemoval (max s.now f.next) = { p with
        txq := { p.txq with flush := some { left := f.left, next := max s.now f.next + 1 } } } := by
      rw [Port.scheduleRemoval, flush]; rfl
    have idx := findIdx?_mark_of_split queue mark others_
    refine expiry_to rfl rfl (timer := p.txq.flush.map (·.next)) (by rw [flush]; rfl) released
      ((State.flushDue_of_idx (s := s.reach f.next) idx).trans ?_)
    refine congrArg (fun u => ((State.removeAt n before.length .discFlush u).withdrawCheck n).settle n) ?_
    exact State.setPort_congr scheduled

/-! ## The governor's timer and residency -/

section
variable {p : Port} {now : Nat}

theorem Depth.higher_of_level {c d : Depth} (h : d.level = c.level + 1) : c.higher = d := by
  cases c <;> cases d <;> first | rfl | simp [Depth.level] at h

theorem Port.restoreDue_below {d : Depth} (step : d.level = p.dgv.ceiling.level + 1) (room : d.level ≤ p.cfg.maxCeiling.level) :
    p.restoreDue now = { p with
      dgv := { p.dgv with ceiling := d, restore := some (now + p.cfg.restorePeriod.toNat * 1000000) }
      flags := p.flags ||| BitVec.twoPow 11 6 } := by
  have below : p.dgv.ceiling.level < p.cfg.maxCeiling.level := by omega
  have rises : p.dgv.ceiling.level < d.level := by omega
  unfold Port.restoreDue
  simp only [if_pos below, Depth.higher_of_level step, Port.raiseCeiling, if_pos rises]
  rfl

theorem Port.restoreDue_at (full : p.cfg.maxCeiling.level ≤ p.dgv.ceiling.level) : p.restoreDue now =
    { p with dgv := { p.dgv with restore := some (now + p.cfg.restorePeriod.toNat * 1000000) } } := by
  unfold Port.restoreDue
  simp only [if_neg (Nat.not_lt.mpr full)]
  rfl

end

/-- Settles O44: the restore timer by the ceiling, and residency by the power state. -/
theorem restoreAndResidencyExpiries : Obligations.RestoreAndResidencyExpiries := by
  intro n s t released p restore one unit
  have counts : Port.countResidency = unit := by
    funext q
    obtain ⟨lpe, ⟨ps, _, _, _, _, _, _, _, _, _, _⟩, _, _, _, _, _, _, _, _, _, _, _, _⟩ := q
    cases ps with
    | grantWait r =>
      obtain ⟨depth, _⟩ := r
      cases depth <;> simp [unit, one, Port.countResidency, PS.residency, Port.count, Counters.bump, satInc_eq_satAdd]
    | _ => simp [unit, one, Port.countResidency, PS.residency, Port.count, Counters.bump, satInc_eq_satAdd]
  refine ⟨fun d timer step room => ?below, fun timer full => ?full, fun timer => ?residency⟩
  case below =>
    exact expiry_to (f := fun s => s.modPort n (Port.restoreDue s.now)) rfl rfl timer released
      (State.setPort_congr (Port.restoreDue_below step room))
  case full =>
    exact expiry_to (f := fun s => s.modPort n (Port.restoreDue s.now)) rfl rfl timer released
      (State.setPort_congr (Port.restoreDue_at full))
  case residency =>
    refine expiry_to rfl rfl timer released ?_
    rw [← counts]
    rfl

end Sys2Proof.Machine
end

section
/-! APPLY, FORCE_WAKE and SEND_ADVERT at the command slot (R86, R159 to R161, R163, R166). -/

-- One theorem at a time: their elaboration side by side would each hold a thread and its stack.
set_option Elab.async false

namespace Sys2Proof.Machine

/-! ## The decision at the slot -/

section
variable {s : State} {n : PortId} {c : SlotCommand} {refusal : Option Reason} {r : Reason} {effect : State → State} {i : Instr}

/-- The command reported DONE at the port, in the state its effect has made (R158). -/
def State.reported (n : PortId) (c : SlotCommand) (t : State) : State := t.setPort n { t.port n with
  slot := { busy := false, command := c, result := .done, reason := .none }
  flags := (t.port n).flags ||| BitVec.twoPow 11 9 }

theorem State.slotCommand_of_refused (idle : (s.port n).slot.busy = false) (refused : refusal = some r) :
    s.slotCommand n c refusal effect = s.modPort n (Port.refuse c r) := by
  subst refused
  exact if_neg (by simp [idle])

/-- A command refused at an IDLE slot for a reason of its own. -/
theorem exec_slot_refused (taken : exec i s = running s fun s => s.slotCommand n c refusal effect)
    (released : s.resetHeld = false) (idle : (s.port n).slot.busy = false) (refused : refusal = some r) :
    exec i s = .next (s.setPort n { s.port n with
      slot := { busy := false, command := c, result := .rejected, reason := r }
      flags := (s.port n).flags ||| BitVec.twoPow 11 10 }) := by
  rw [exec_eq_refused (c := c) (r := r) taken released (State.slotCommand_of_refused idle refused), idle]

/-- A command carried out at an IDLE slot. -/
theorem exec_slot_done {t : State} (taken : exec i s = running s fun s => s.slotCommand n c refusal effect)
    (released : s.resetHeld = false) (idle : (s.port n).slot.busy = false) (accepted : refusal = none) (made : effect s = t) :
    exec i s = .next (t.reported n c) := by
  refine exec_to taken released ?_
  rw [accepted, ← made]
  exact State.slotCommand_of_accepted idle effect

end

/-! ## APPLY -/

section
variable {s : State} {n : PortId} {c : PortConfig} {p : Port}

theorem PortConfig.inRange_iff (c : PortConfig) : c.inRange = true ↔
    1 ≤ c.fixedLatency.toNat ∧ 1 ≤ c.dimIdle.toNat ∧ 1 ≤ c.deepIdle.toNat ∧ c.deepIdle.toNat ≤ 1000000 ∧
      1 ≤ c.dormantIdle.toNat ∧ c.dormantIdle.toNat ≤ 60000 ∧ 10 ≤ c.offerTimeout.toNat ∧
      c.offerTimeout.toNat ≤ 10000 ∧ 1 ≤ c.refreshInterval.toNat ∧ c.refreshInterval.toNat ≤ 100 ∧
      1 ≤ c.wakeGuard.toNat ∧ c.ageLimit.toNat ≤ 10000 ∧ c.urgencyCells.toNat ≤ 4096 ∧ c.reserve.toNat ≤ 1024 ∧
      c.reserve.toNat ≤ c.cap.toNat ∧ 16 ≤ c.cap.toNat ∧ c.cap.toNat ≤ 4096 ∧ 1 ≤ c.failThreshold.toNat ∧
      c.failThreshold.toNat ≤ 8 ∧ 1 ≤ c.restorePeriod.toNat := by
  simp only [PortConfig.inRange, Bool.and_eq_true, decide_eq_true_eq, Nat.max_le, and_assoc]

theorem PortConfig.agingFits_iff (c : PortConfig) : c.agingFits = true ↔
    (c.latencyMode = .fixed → c.ageLimit ≠ 0 → c.fixedLatency.toNat < c.ageLimit.toNat * 1000) := by
  have zero : c.ageLimit.toNat = 0 ↔ c.ageLimit = 0 := by simp [← BitVec.toNat_inj]
  have mode : c.latencyMode = .fixed ↔ c.latencyMode ≠ .variable := by cases c.latencyMode <;> simp
  simp only [PortConfig.agingFits, Bool.or_eq_true, beq_iff_eq, decide_eq_true_eq, zero, mode]
  tauto

theorem State.stagingValid_iff (s : State) (n : PortId) : s.stagingValid n = true ↔
    (s.port n).staging.inRange = true ∧ (s.port n).staging.agingFits = true ∧
      s.sumReservesWith n (s.port n).staging.reserve.toNat + s.sharedInUse ≤ 4096 := by
  simp only [State.stagingValid, Bool.and_eq_true, decide_eq_true_eq, and_assoc]
  rfl

theorem Port.changesIdleField_iff (p : Port) : p.changesIdleField = true ↔
    p.staging.latencyMode ≠ p.cfg.latencyMode ∨ p.staging.reserve ≠ p.cfg.reserve ∨ p.staging.cap ≠ p.cfg.cap := by
  simp only [Port.changesIdleField, Bool.or_eq_true, bne_iff_ne, or_assoc]

theorem Port.isIdle_iff (p : Port) : p.isIdle = true ↔
    p.txq.queue = [] ∧ ∀ e check, p.lpe.tx ≠ .busy (.bypass e) check := by
  have bypass : p.lpe.tx.isBypass = false ↔ ∀ e check, p.lpe.tx ≠ .busy (.bypass e) check := by
    cases p.lpe.tx with
    | idle => simp [Transmitter.isBypass]
    | busy f check => cases f <;> simp [Transmitter.isBypass]
  simp only [Port.isIdle, Bool.and_eq_true, List.isEmpty_iff, Bool.not_eq_true', bypass]

theorem State.applyRefusal_of_invalid (h : s.stagingValid n ≠ true) : s.applyRefusal n = some .invalid := by
  simp [State.applyRefusal, h]

theorem State.applyRefusal_of_blocked (valid : s.stagingValid n = true) (changes : (s.port n).changesIdleField = true)
    (up : (s.port n).lpe.link = .up) (used : (s.port n).isIdle ≠ true) : s.applyRefusal n = some .notIdle := by
  simp [State.applyRefusal, valid, changes, up, used]

/-- The effect of APPLY that leaves enable as it is. -/
theorem State.applyEffect_of_same (same : (s.port n).cfg.enable = (s.port n).staging.enable) :
    s.applyEffect n = s.setPort n (s.port n).takeStaging := by
  have enable : ((s.modPort n Port.takeStaging).port n).cfg.enable = (s.port n).staging.enable :=
    congrArg (fun p => p.cfg.enable) (State.port_modPort_same ..)
  unfold State.applyEffect
  simp only [enable, same]
  split <;> first | rfl | simp_all

/-- The effect of APPLY that disables the port (R8). -/
theorem State.applyEffect_of_disable (was : (s.port n).cfg.enable = true) (now_ : (s.port n).staging.enable = false) :
    s.applyEffect n = (s.setPort n (s.port n).takeStaging).disableLink n := by
  have enable : ((s.modPort n Port.takeStaging).port n).cfg.enable = false :=
    (congrArg (fun p => p.cfg.enable) (State.port_modPort_same ..)).trans now_
  unfold State.applyEffect
  simp only [enable, was]
  rfl

/-- The effect of APPLY that enables the port (R8). -/
theorem State.applyEffect_of_enable (was : (s.port n).cfg.enable = false) (now_ : (s.port n).staging.enable = true) :
    s.applyEffect n = s.setPort n ((s.port n).takeStaging.enterRestart s.now) := by
  have enable : ((s.modPort n Port.takeStaging).port n).cfg.enable = true :=
    (congrArg (fun p => p.cfg.enable) (State.port_modPort_same ..)).trans now_
  unfold State.applyEffect
  simp only [enable, was]
  exact State.modPort_setPort ..

/-- A disabled port's link goes to DOWN, out of UP with the link-loss effects (R8). -/
theorem State.disableLink_setPort (disabled : p.cfg.enable = false) : (s.setPort n p).disableLink n =
    let down := s.setPort n { p with lpe := { p.lpe with link := .down, acquire := none, restart := none } }
    if p.lpe.link = .up then down.loseLink n true else down := by
  have down := Port.enterDown_of_absent (p := p) (now := s.now) (.inl disabled)
  unfold State.disableLink
  rw [State.port_setPort_same, State.dropLink_setPort, State.modPort_setPort]
  change (if p.lpe.link = .up then (s.setPort n (p.enterDown s.now)).loseLink n true else s.setPort n (p.enterDown s.now)) = _
  rw [down]

end

/-- Settles O46: the refusals by the tests of R159 and R160, and the effect by what becomes of enable. -/
theorem applyTakesStaging : Obligations.ApplyTakesStaging := by
  intro n s released p idle c reserve held inUse valid changes idle_ blocked refused taken down restart reported
  have valid_iff : s.stagingValid n = true ↔ valid := by
    rw [State.stagingValid_iff, PortConfig.inRange_iff, PortConfig.agingFits_iff]
    rfl
  have blocked_iff : blocked ↔ (p.changesIdleField = true ∧ p.lpe.link = .up ∧ ¬ p.isIdle = true) := by
    rw [Port.changesIdleField_iff, Port.isIdle_iff]
  have accepted (hv : valid) (hb : ¬ blocked) : s.applyRefusal n = none := by
    refine (s.applyRefusal_eq_none_iff n).mpr ⟨valid_iff.mpr hv, fun changed up => ?_⟩
    by_contra used
    exact hb (blocked_iff.mpr ⟨changed, up, used⟩)
  refine ⟨fun hv => ?invalid, fun hv hb => ?blocked, fun hv hb same => ?same, fun hv hb was now_ => ?disable,
    fun hv hb was now_ => ?enable⟩
  case invalid =>
    exact exec_slot_refused rfl released idle (State.applyRefusal_of_invalid fun h => hv (valid_iff.mp h))
  case blocked =>
    obtain ⟨changed, up, used⟩ := blocked_iff.mp hb
    exact exec_slot_refused rfl released idle (State.applyRefusal_of_blocked (valid_iff.mpr hv) changed up used)
  case same => exact exec_slot_done rfl released idle (accepted hv hb) (State.applyEffect_of_same same)
  case disable =>
    exact exec_slot_done rfl released idle (accepted hv hb)
      ((State.applyEffect_of_disable was now_).trans (State.disableLink_setPort now_))
  case enable => exact exec_slot_done rfl released idle (accepted hv hb) (State.applyEffect_of_enable was now_)

/-! ## FORCE_WAKE -/

section
variable {s : State} {n : PortId}

theorem State.forceEffect_of_sleeping (asleep : (s.port n).psc.ps ≠ .active) : s.forceEffect n =
    let forced := s.setPort n { s.port n with psc := { (s.port n).psc with force := true } }
    if (s.port n).psc.ps.isGrantWait = true then forced.promoteCheck n else forced.wakeCheck n := by
  unfold State.forceEffect
  rw [if_neg asleep]
  simp only [State.port_modPort_same]
  rfl

end

/-- Settles O47: refused without a link, and the effect by the power state. -/
theorem forceWakeSetsCause : Obligations.ForceWakeSetsCause := by
  intro n s released p idle forced reported
  refine ⟨fun off => ?off, fun up active => ?active, fun r up waits => ?waits, fun up asleep free => ?asleep⟩
  case off => exact exec_slot_refused rfl released idle (if_neg off)
  case active => exact exec_slot_done rfl released idle (if_pos up) (if_pos active)
  case waits =>
    have asleep : p.psc.ps ≠ .active := by rw [waits]; nofun
    have waiting : p.psc.ps.isGrantWait = true := by rw [waits]; rfl
    exact exec_slot_done rfl released idle (if_pos up) ((State.forceEffect_of_sleeping asleep).trans (if_pos waiting))
  case asleep =>
    exact exec_slot_done rfl released idle (if_pos up)
      ((State.forceEffect_of_sleeping asleep).trans (if_neg (by simpa using free)))

/-! ## SEND_ADVERT -/

section
variable {s : State} {n : PortId} {a : Adu}

theorem LaRecord.acceptable_iff (la : LaRecord) : la.acceptable = true ↔
    2 ≤ la.tDim.toNat ∧ 40 ≤ la.tDeep.toNat ∧ 1500 ≤ la.tDormant.toNat ∧ la.tDim.toNat ≤ la.tDeep.toNat ∧
      la.tDeep.toNat ≤ la.tDormant.toNat := by
  simp only [LaRecord.acceptable, Bool.and_eq_true, decide_eq_true_eq, and_assoc]
  rfl

theorem Adu.sendRefusal_of_invalid (invalid : a.laStaging.acceptable ≠ true) : a.sendRefusal = some .invalid :=
  if_pos (by simpa using invalid)

theorem Adu.sendRefusal_of_pending (valid : a.laStaging.acceptable = true) (pending : a.state = .pending) :
    a.sendRefusal = some .busy :=
  (if_neg (by simp [valid])).trans (if_pos pending)

theorem Adu.sendRefusal_of_free (valid : a.laStaging.acceptable = true) (free : a.state ≠ .pending) : a.sendRefusal = none :=
  (if_neg (by simp [valid])).trans (if_neg free)

theorem State.sendEffect_of_unsent (unsent : (s.port n).adu.state = .unsent) : s.sendEffect n =
    s.setPort n { s.port n with adu := { (s.port n).adu with laLive := (s.port n).adu.laStaging } } := by
  unfold State.sendEffect
  simp only [State.port_modPort_same, if_pos unsent]
  rfl

theorem State.sendEffect_of_ended (ended : (s.port n).adu.state ≠ .unsent) : s.sendEffect n =
    (s.setPort n (Port.advertise { s.port n with
      adu := { (s.port n).adu with laLive := (s.port n).adu.laStaging } })).afterPending n := by
  unfold State.sendEffect
  simp only [State.port_modPort_same, if_neg ended]
  exact congrArg (State.afterPending n) (State.modPort_setPort ..)

end

/-- Settles O48: the refusals by the validation and the exchange, and the effect by whether one has begun. -/
theorem sendAdvertStartsExchange : Obligations.SendAdvertStartsExchange := by
  intro n s released p idle la valid refused reported begun
  have valid_iff : la.acceptable = true ↔ valid := LaRecord.acceptable_iff la
  refine ⟨fun hv => ?invalid, fun hv pending => ?pending, fun hv unsent => ?unsent, fun hv ended => ?ended⟩
  case invalid =>
    exact exec_slot_refused rfl released idle (Adu.sendRefusal_of_invalid fun h => hv (valid_iff.mp h))
  case pending => exact exec_slot_refused rfl released idle (Adu.sendRefusal_of_pending (valid_iff.mpr hv) pending)
  case unsent =>
    have free : p.adu.state ≠ .pending := by rw [unsent]; nofun
    exact exec_slot_done rfl released idle (Adu.sendRefusal_of_free (valid_iff.mpr hv) free)
      (State.sendEffect_of_unsent unsent)
  case ended =>
    have free : p.adu.state ≠ .pending := by obtain h | h := ended <;> rw [h] <;> nofun
    have sent : p.adu.state ≠ .unsent := by obtain h | h := ended <;> rw [h] <;> nofun
    exact exec_slot_done rfl released idle (Adu.sendRefusal_of_free (valid_iff.mpr hv) free)
      (State.sendEffect_of_ended sent)

end Sys2Proof.Machine
end

section
/-! PORT_RESET and SOFT_RESET (R168, R169). -/

-- One theorem at a time: their elaboration side by side would each hold a thread and its stack.
set_option Elab.async false

namespace Sys2Proof.Machine

/-! ## PORT_RESET -/

section
variable {s : State} {n : PortId}

/-- The blocks of a port behind a PORT_RESET, whatever of it the loss of the link has left (R9, R152, R168). -/
theorem State.resetEnd_eq {q : Port} (cfg : q.cfg = (s.port n).cfg) : s.resetEnd n q =
    let p := s.port n
    let set := { q with
      lpe := { q.lpe with
        link := if p.cfg.enable = true then .restart else .down
        acquire := none
        restart := if p.cfg.enable = true then some (s.now + 2000) else none
        tx := .idle
        lastFill := none }
      dgv := { ceiling := p.cfg.maxCeiling, failures := 0, restore := none } }
    let r := if Config.failureFirst s.draws n = true then failedAt s.now p set else set
    { r with
      slot := { busy := false, command := .portReset, result := .done, reason := .none }
      flags := r.flags ||| BitVec.twoPow 11 9 } := by
  rw [State.resetEnd, Port.reportDue_eq, Port.resetBlocks_eq, Port.done_eq, cfg]

end

/-- Settles O49: `State.portReset_eq`, with the blocks of the port behind the loss of the link. -/
theorem portResetEffects : Obligations.PortResetEffects := by
  intro n s released p v w q set r
  have lost (up : p.lpe.link = .up) : w = v.loseLink n true := if_pos up
  have kept (off : p.lpe.link ≠ .up) : w = v := if_neg off
  have cfg : q.cfg = p.cfg := by
    change (w.port n).cfg = p.cfg
    by_cases up : p.lpe.link = .up
    · rw [lost up, State.port_loseLink_same, Port.linkLost_cfg, State.port_setPort_same]
    · rw [kept up, State.port_setPort_same]
  refine exec_to rfl released (.trans ?_ (congrArg (fun u : State => { u with draws := s.draws + 1 })
    (State.setPort_congr (State.resetEnd_eq (s := s) cfg))))
  rw [State.portReset_eq]
  split
  case isTrue up =>
    have draws : w.draws = s.draws := by rw [lost up]; exact (same_loseLink n true v).2.2.2.1
    change ({ (v.loseLink n true).modPort n (s.resetEnd n) with draws := (v.loseLink n true).draws + 1 } : State) = _
    rw [← lost up, draws]
    rfl
  case isFalse off =>
    have port : q = p.dropFlush := by
      change w.port n = _
      rw [kept off]
      exact State.port_setPort_same ..
    have put (x : Port) : w.setPort n x = s.setPort n x := by rw [kept off]; exact State.setPort_setPort ..
    rw [put, port]
    rfl

/-! ## SOFT_RESET -/

section
variable {now : Nat} {p q : Port}

theorem Port.drop_dgv (p : Port) : p.drop.dgv = { p.dgv with failures := 0, ceiling := p.dgv.ceiling.lower } := by
  unfold Port.drop
  simp only
  split <;> rfl

/-- What a failure report at DGV n depends on: the link, the configuration and the governor (R143, R144). -/
structure Port.GovernedAs (p q : Port) : Prop where
  lpe : p.lpe = q.lpe
  cfg : p.cfg = q.cfg
  dgv : p.dgv = q.dgv

theorem Port.GovernedAs.failure (h : p.GovernedAs q) (now : Nat) : (p.failure now).GovernedAs (q.failure now) := by
  obtain ⟨lpe, cfg, dgv⟩ := h
  have count : (p.countFailure now).dgv = (q.countFailure now).dgv := by simp only [Port.countFailure, lpe, cfg, dgv]
  refine ⟨by rw [Port.failure_frame, lpe, Port.failure_frame], by rw [Port.failure_frame, cfg, Port.failure_frame], ?_⟩
  rw [Port.failure_eq, Port.failure_eq, cfg, dgv]
  split
  · rw [Port.drop_dgv, Port.drop_dgv, count]
  · exact count

/-- The failures due at a reset reach a governor with the same values in the same way. -/
theorem Port.GovernedAs.failures {was : Port} (h : p.GovernedAs q) : (failedAt now was p).GovernedAs (failedAt now was q) := by
  have step {b : Bool} {p q : Port} (h : p.GovernedAs q) {x y : Port} (hx : p.GovernedAs x) (hy : q.GovernedAs y) :
      (if b = true then x.failure now else p).GovernedAs (if b = true then y.failure now else q) := by
    split
    · exact Port.GovernedAs.failure
        ⟨hx.lpe.symm.trans (h.lpe.trans hy.lpe), hx.cfg.symm.trans (h.cfg.trans hy.cfg), hx.dgv.symm.trans (h.dgv.trans hy.dgv)⟩ now
    · exact h
  unfold failedAt
  refine step (step h ?_ ?_) ?_ ?_ <;> exact ⟨rfl, rfl, rfl⟩

theorem failedAt_frame (now : Nat) (was p : Port) : failedAt now was p = { p with
    dgv := (failedAt now was p).dgv, counters := (failedAt now was p).counters, flags := (failedAt now was p).flags } := by
  have frame := Port.reportDue_frame true now p was
  rwa [Port.reportDue_eq, if_pos rfl] at frame

/-- What SOFT_RESET clears of a port does not meet the failures due (R169). -/
theorem Port.afterSoftReset_failedAt (now : Nat) (was p : Port) : (failedAt now was p).afterSoftReset =
    { failedAt now was p.afterSoftReset with counters := {}, flags := 0 } := by
  have governed : p.GovernedAs p.afterSoftReset := ⟨rfl, rfl, rfl⟩
  have dgv : (failedAt now was p).dgv = (failedAt now was p.afterSoftReset).dgv := governed.failures.dgv
  rw [failedAt_frame, failedAt_frame now was p.afterSoftReset, dgv]
  rfl

/-- What SOFT_RESET leaves of a port with no failure due (R9, R45, R96, R120, R123, R152, R169, R180). -/
def Port.softReset (now : Nat) (p : Port) : Port := { p with
  lpe := { p.lpe with
    link := if p.cfg.enable = true then .restart else .down
    acquire := none
    restart := if p.cfg.enable = true then some (now + 2000) else none
    tx := .idle
    lastFill := none }
  psc := {}
  adu := p.adu.linkLost
  txq := {}
  ssp := { ingress := p.ssp.ingress.map fun g => { g with route := .ignore }, rx := none }
  dgv := { ceiling := p.cfg.maxCeiling, failures := 0, restore := none }
  slot := {}
  counters := {}
  flags := 0
  lineOut := p.lineOut ++ (if p.lpe.tx = .idle then [] else [.truncated])
  egressOut := p.egressOut ++ cutWords p.ssp.rx }

/-- A port that keeps the link law, at a SOFT_RESET: an UP link takes its losses, and elsewhere nothing of them is left
to take. -/
theorem Port.LinkLaw.softReset_eq (h : p.LinkLaw) : (p.resetLoss.resetBlocks now).afterSoftReset = p.softReset now := by
  rw [Port.resetBlocks_eq]
  unfold Port.resetLoss
  split
  case isTrue up =>
    rw [Port.linkLost_eq]
    have ignored (g : Option Ingress) : ((g.map fun g => { g with route := .ignore }).map fun g => { g with route := .ignore }) =
        g.map fun g => { g with route := .ignore } := Option.map_map ..
    simp only [Port.dropFlush, Port.afterSoftReset, Port.ignoreIngress, Port.softReset, ignored]
    rfl
  case isFalse off =>
    obtain ⟨psc, txq, tx, rx, adu, -, ingress, -, -, -⟩ := h
    simp [Port.dropFlush, Port.afterSoftReset, Port.ignoreIngress, Port.softReset, psc off, txq off, tx off, rx off, adu off,
      cutWords]

end

/-- Settles O50: `State.softReset_eq`, with each port behind its loss and the failures due. -/
theorem softResetEffects : Obligations.SoftResetEffects := by
  intro s released law after
  have port (n : PortId) : s.softPort n = if Config.failureFirst s.draws n = true then
      { failedAt s.now (s.port n) (after (s.port n)) with counters := {}, flags := 0 } else after (s.port n) := by
    have reset : ((s.port n).resetLoss.resetBlocks s.now).afterSoftReset = after (s.port n) := (law.1 n).softReset_eq
    rw [State.softPort, Port.reportDue_eq]
    split
    · rw [Port.afterSoftReset_failedAt, reset]
    · exact reset
  refine exec_to rfl released ((State.softReset_eq s).trans ?_)
  rw [funext port, allCells_eq]

end Sys2Proof.Machine
end

section
/-! POOL_LOW, the flags and the enables (R121, R175 to R179). -/

-- One theorem at a time: their elaboration side by side would each hold a thread and its stack.
set_option Elab.async false

namespace Sys2Proof.Machine

/-! ## Accesses of the host bus -/

section
variable {s : State} {offset : BitVec 12} {l : Location} {v : Word}

/-- A read at a mapped offset returns the fields and changes nothing (R182). -/
theorem exec_read_of_located (released : s.resetHeld = false) (found : locate offset = some l) :
    exec (.faultyAccess (.read offset)) s = .next { s with readData := s.valueAt l } := by
  refine exec_to (f := State.hostRead offset) rfl released ?_
  simp [State.hostRead, State.readWord, found]

/-- A read at an unmapped offset returns 0 and sets ACCESS_ERROR (R179, R182). -/
theorem exec_read_of_unmapped (released : s.resetHeld = false) (none_ : locate offset = none) :
    exec (.faultyAccess (.read offset)) s = .next { s.accessError with readData := 0 } := by
  refine exec_to (f := State.hostRead offset) rfl released ?_
  simp only [State.hostRead, State.readWord, none_]
  rfl

end

/-! ## POOL_LOW -/

section
variable {s : State}

theorem locate_poolLow : locate 0x010 = some .poolLow := rfl

/-- The 16 bits of POOL_LOW hold every value up to 4096 (R183). -/
theorem State.valueAt_poolLow (h : s.pool.low ≤ 4096) : s.valueAt .poolLow = BitVec.ofNat 32 s.pool.low := by
  apply BitVec.eq_of_toNat_eq
  simp [State.valueAt, place]
  omega

end

/-- Settles O52: the write, the two resets and the read. -/
theorem writeOfPoolLow : Obligations.WriteOfPoolLow := by
  intro value s
  refine ⟨fun released => exec_to rfl released rfl, ⟨_, rfl, rfl⟩, ?soft, fun released low => ?read⟩
  case soft =>
    cases held : s.resetHeld with
    | true => exact ⟨s, exec_of_held rfl held, rfl⟩
    | false => exact ⟨_, exec_to rfl held (State.softReset_eq s), rfl⟩
  case read => rw [exec_read_of_located released locate_poolLow, State.valueAt_poolLow low]

/-! ## Flags, enables and the interrupt -/

/-- Two fields share a set bit exactly where their conjunction is not 0. -/
theorem BitVec.and_ne_zero_iff {w : Nat} (x y : BitVec w) :
    (x &&& y != 0) = true ↔ ∃ i, x.getLsbD i = true ∧ y.getLsbD i = true := by
  rw [bne_iff_ne]
  constructor
  · intro ne
    by_contra none_
    refine ne (BitVec.eq_of_getLsbD_eq fun i _ => ?_)
    have clear : ¬ (x.getLsbD i = true ∧ y.getLsbD i = true) := fun h => none_ ⟨i, h⟩
    simpa using clear
  · rintro ⟨i, hx, hy⟩ zero
    have bit := congrArg (fun z => z.getLsbD i) zero
    simp [hx, hy] at bit

/-- Port `n` stands at place `n` of the ports. -/
theorem getElem?_allPorts (n : PortId) : allPorts[n.val]? = some n := by
  revert n
  decide

theorem State.getLsbD_portSummary (s : State) (n : PortId) : s.portSummary.getLsbD n.val = (s.port n).summary := by
  have bit : s.portSummary.getLsbD n.val = (allPorts.map fun m => (s.port m).summary).getD n.val false :=
    BitVec.getLsbD_ofBoolListLE
  rw [bit, List.getD_eq_getElem?_getD, List.getElem?_map, getElem?_allPorts]
  rfl

/-- Settles O53: each write by its definition, the summary and IRQN by the bits that flags and enables share. -/
theorem flagsEnablesAndInterrupt : Obligations.FlagsEnablesAndInterrupt := by
  intro n value s p lit
  have lit_iff (m : PortId) : (s.port m).summary = true ↔ lit m := BitVec.and_ne_zero_iff ..
  refine ⟨fun released => ⟨?_, ?_, ?_, ?_, ?_⟩, ?summary, ?irq⟩
  case summary => rw [State.getLsbD_portSummary, lit_iff]
  case irq =>
    rw [State.irqAsserted, Bool.or_eq_true, List.any_eq_true, BitVec.and_ne_zero_iff]
    simp only [mem_allPorts, true_and, lit_iff]
  all_goals exact exec_to rfl released rfl

end Sys2Proof.Machine
end

section
/-! The layout of the register window: where each location stands, and the bits of its word (R181 to R187). -/

-- One theorem at a time: their elaboration side by side would each hold a thread and its stack.
set_option Elab.async false

namespace Sys2Proof.Machine

/-! ## Where the locations stand -/

section
variable {n : PortId} {k i : Nat} {l : Location}

/-- The words of the device page (R183). -/
theorem locate_device (page : k < 64) : locate (BitVec.ofNat 12 (4 * k)) = deviceWord k := by
  have a : (BitVec.ofNat 12 (4 * k)).toNat = 4 * k := by rw [BitVec.toNat_ofNat]; omega
  rw [locate]
  simp only [a]
  rw [if_neg (by omega), if_pos (by omega), show 4 * k / 4 = k by omega]

/-- The two words of an entry of the arbiter view (R184). -/
theorem locate_arbiter (page : k < 16) : locate (BitVec.ofNat 12 (0x100 + 4 * k)) =
    some (if k % 2 = 0 then .arbPosA (Fin.ofNat 8 (k / 2)) else .arbPosB (Fin.ofNat 8 (k / 2))) := by
  have a : (BitVec.ofNat 12 (0x100 + 4 * k)).toNat = 0x100 + 4 * k := by rw [BitVec.toNat_ofNat]; omega
  rw [locate]
  simp only [a]
  rw [if_neg (by omega), if_neg (by omega), if_pos (by omega), show (0x100 + 4 * k - 0x100) / 4 = k by omega]

/-- The words of a port page (R185). -/
theorem locate_port (page : k < 64) : locate (BitVec.ofNat 12 (0x200 + n.val * 0x100 + 4 * k)) = portWord n k := by
  have hn := n.isLt
  have a : (BitVec.ofNat 12 (0x200 + n.val * 0x100 + 4 * k)).toNat = 0x200 + n.val * 0x100 + 4 * k := by
    rw [BitVec.toNat_ofNat]; omega
  have port : Fin.ofNat 8 ((0x200 + n.val * 0x100 + 4 * k - 0x200) / 0x100) = n := by
    apply Fin.ext
    change _ % 8 = _
    omega
  rw [locate]
  simp only [a]
  rw [if_neg (by omega), if_neg (by omega), if_neg (by omega), if_neg (by omega), if_pos (by omega), port,
    show (0x200 + n.val * 0x100 + 4 * k) % 0x100 / 4 = k by omega]

/-- Locations that stand one after the other. -/
theorem stands_of_run {f : Nat → Option Location} {locs : List Location}
    (run : (List.range locs.length).map f = locs.map some) (at_ : locs[i]? = some l) : f i = some l := by
  obtain ⟨hi, rfl⟩ := List.getElem?_eq_some_iff.mp at_
  have here := congrArg (fun fs => fs[i]?) run
  simpa [hi] using here

end

/-! ## The offsets without a location, and those that are read only -/

section
variable {n : PortId} {k : Nat} {offset : BitVec 12} {l : Location}

theorem deviceWord_of_le (h : 11 ≤ k) : deviceWord k = none := by
  unfold deviceWord
  split <;> first | omega | rfl

theorem counterAt_eq_none (h : k = 15 ∨ 24 ≤ k) : counterAt k = none := by
  obtain rfl | h := h
  · rfl
  · obtain ⟨j, rfl⟩ := Nat.exists_eq_add_of_le' h
    rfl

theorem portWord_eq_none (h : k = 30 ∨ k = 31 ∨ k = 47 ∨ 56 ≤ k) : portWord n k = none := by
  obtain rfl | rfl | h : k = 30 ∨ k = 31 ∨ k = 47 ∨ 56 ≤ k := h
  · rfl
  · rfl
  · unfold portWord
    rw [if_neg (by omega), if_neg (by omega), if_neg (by omega), counterAt_eq_none (by omega)]
    rfl

/-- The offsets that name no location (R181; an offset that is no multiple of four: log entry 12). -/
def Unmapped (a : Nat) : Prop :=
  a % 4 ≠ 0 ∨ (0x02C ≤ a ∧ a < 0x100) ∨ (0x140 ≤ a ∧ a < 0x200) ∨ 0xA00 ≤ a ∨
    (0x200 ≤ a ∧ (a % 0x100 = 0x78 ∨ a % 0x100 = 0x7C ∨ a % 0x100 = 0xBC ∨ 0xE0 ≤ a % 0x100))

theorem locate_of_unmapped (h : Unmapped offset.toNat) : locate offset = none := by
  unfold Unmapped at h
  unfold locate
  simp only
  by_cases word : offset.toNat % 4 = 0
  · rw [if_neg (not_not.mpr word)]
    by_cases device : offset.toNat < 0x100
    · rw [if_pos device, deviceWord_of_le (by omega)]
    rw [if_neg device, if_neg (by omega)]
    by_cases gap : offset.toNat < 0x200
    · rw [if_pos gap]
    rw [if_neg gap]
    by_cases page : offset.toNat < 0xA00
    · rw [if_pos page, portWord_eq_none (by omega)]
    · rw [if_neg page]
  · rw [if_pos word]

/-- The offsets of the locations that are read only (R182 to R185). -/
def ReadOnlyAt (a : Nat) : Prop :=
  a = 0x000 ∨ a = 0x004 ∨ a = 0x014 ∨ a = 0x018 ∨ a = 0x024 ∨ a = 0x028 ∨ (0x100 ≤ a ∧ a < 0x140) ∨
    (0x200 ≤ a ∧ ((0x20 ≤ a % 0x100 ∧ a % 0x100 < 0x40) ∨ (0x48 ≤ a % 0x100 ∧ a % 0x100 < 0x68) ∨
      a % 0x100 = 0x6C ∨ 0x80 ≤ a % 0x100))

theorem access_of_deviceWord (h : k = 0 ∨ k = 1 ∨ k = 5 ∨ k = 6 ∨ k = 9 ∨ k = 10) (at_ : deviceWord k = some l) :
    l.access = .ro := by
  obtain rfl | rfl | rfl | rfl | rfl | rfl := h <;> cases at_ <;> rfl

theorem access_of_portWord (h : (8 ≤ k ∧ k < 16) ∨ (18 ≤ k ∧ k < 26) ∨ k = 27 ∨ 32 ≤ k) (at_ : portWord n k = some l) :
    l.access = .ro := by
  unfold portWord at at_
  rw [if_neg (by omega)] at at_
  by_cases live : k < 16
  · rw [if_pos live] at at_
    cases at_
    rfl
  rw [if_neg live] at at_
  by_cases counters : 32 ≤ k
  · rw [if_neg (by omega), Option.map_eq_some_iff] at at_
    obtain ⟨c, -, rfl⟩ := at_
    rfl
  rw [if_pos (by omega)] at at_
  split at at_ <;> first | omega | (cases at_ <;> rfl)

theorem access_of_readOnlyAt (h : ReadOnlyAt offset.toNat) (at_ : locate offset = some l) : l.access = .ro := by
  unfold ReadOnlyAt at h
  unfold locate at at_
  simp only at at_
  by_cases word : offset.toNat % 4 = 0
  · rw [if_neg (not_not.mpr word)] at at_
    by_cases device : offset.toNat < 0x100
    · rw [if_pos device] at at_
      exact access_of_deviceWord (by omega) at_
    rw [if_neg device] at at_
    by_cases arbiter : offset.toNat < 0x140
    · rw [if_pos arbiter] at at_
      cases at_
      split <;> rfl
    rw [if_neg arbiter] at at_
    by_cases gap : offset.toNat < 0x200
    · rw [if_pos gap] at at_
      cases at_
    rw [if_neg gap] at at_
    by_cases page : offset.toNat < 0xA00
    · rw [if_pos page] at at_
      exact access_of_portWord (by omega) at_
    · rw [if_neg page] at at_
      cases at_
  · rw [if_pos word] at at_
    cases at_

end

/-! ## The bits of a word -/

section
variable {a b : Nat}

/-- Two fields side by side, each in its place. -/
theorem place_append (x : BitVec a) (y : BitVec b) (k : Nat) : place (x ++ y) k = place y k ||| place x (b + k) := by
  unfold place
  ext i hi
  simp only [BitVec.getElem_or, BitVec.getElem_shiftLeft, BitVec.getElem_setWidth, BitVec.getLsbD_append]
  by_cases below : i < k
  · have : i < b + k := by omega
    simp [below, this]
  · by_cases low : i - k < b
    · have : i < b + k := by omega
      simp [below, low, this]
    · have : ¬ i < b + k := by omega
      have rest : i - (b + k) = i - k - b := by omega
      have out : y.getLsbD (i - k) = false := BitVec.getLsbD_of_ge _ _ (by omega)
      simp [below, low, this, rest, out]

theorem place_zero (k : Nat) : place (0#a) k = 0#32 := by
  unfold place
  simp

/-- A whole word in its place. -/
theorem place_word (w : Word) : place w 0 = w := by
  unfold place
  simp

end

/-- A word whose fields leave no bit out is its own place. -/
theorem map_place_word (words : List Word) : words.map (fun w => place w 0) = words := by
  simp only [place_word, List.map_id']

theorem PortConfig.words_eq (c : PortConfig) :
    [c.word 0, c.word 1, c.word 2, c.word 3, c.word 4, c.word 5, c.word 6, c.word 7] = [
      place (0#16 ++ c.restorePeriod ++ c.failThreshold ++ BitVec.ofBool (c.latencyMode == .fixed) ++
        BitVec.ofNat 2 c.maxCeiling.level ++ BitVec.ofBool c.enable) 0,
      place (c.wakeGuard ++ c.fixedLatency) 0, place (c.urgencyAge ++ c.dimIdle) 0, place (0#12 ++ c.deepIdle) 0,
      place (c.offerTimeout ++ c.dormantIdle) 0, place (0#2 ++ c.ageLimit ++ 0#9 ++ c.refreshInterval) 0,
      place (0#3 ++ c.cap ++ 0#5 ++ c.reserve) 0, place (0#19 ++ c.urgencyCells) 0] := by
  simp only [PortConfig.word, Fin.coe_ofNat_eq_mod, Nat.reduceMod, place_append]
  simp only [bit1, place_zero, Nat.reduceAdd, BitVec.or_zero, BitVec.zero_or, BitVec.or_assoc]

theorem LaRecord.words_eq (a : LaRecord) :
    [a.word 0, a.word 1] = [place (a.tDeep ++ a.tDim) 0, place (0#16 ++ a.tDormant) 0] := by
  simp only [LaRecord.word, Fin.coe_ofNat_eq_mod, Nat.reduceMod, place_append]
  simp only [place_zero, Nat.reduceAdd, BitVec.or_zero]

theorem PartnerRecord.words_eq (r : PartnerRecord) : [r.word 0, r.word 1, r.word 2] = [
    place (0#9 ++ r.refreshMs.setWidth 7 ++ 0#6 ++ r.capability ++ r.seq ++ 0#3 ++ BitVec.ofBool r.valid) 0,
    place (r.tDeep ++ r.tDim) 0, place (0#16 ++ r.tDormant) 0] := by
  simp only [PartnerRecord.word, Fin.coe_ofNat_eq_mod, Nat.reduceMod, place_append]
  simp only [bit1, place_zero, Nat.reduceAdd, BitVec.or_zero, BitVec.zero_or, BitVec.or_assoc]

/-- The status, the slot, the flags and the enables of a port page (R187). -/
theorem State.status_eq (s : State) (n : PortId) {ceiling head : BitVec 2} {age : Nat} {p : Port} (port : s.port n = p)
    (hceiling : ceiling = BitVec.ofNat 2 p.dgv.ceiling.level) (hhead : head = headStateCode p.txq.queue)
    (hage : age = p.headAge s.now) :
    [.status0 n, .status1 n, .headAge n, .cmd n, .slot n, .flags n, .flagEn n].map s.valueAt = [
      place (0#4 ++ p.adu.seq ++ 0#2 ++ p.adu.state.code ++ 0#1 ++ BitVec.ofNat 3 p.dgv.failures ++ 0#2 ++ ceiling ++ 0#2 ++
        p.psc.rs.code ++ p.psc.ps.code ++ 0#2 ++ p.lpe.link.code) 0,
      place (0#3 ++ BitVec.ofNat 13 p.heldCells ++ 0#6 ++ head ++ BitVec.ofNat 8 p.txq.queue.length) 0,
      place (BitVec.ofNat 32 (min age 4294967295)) 0, place (width := 32) 0 0,
      place (0#17 ++ p.slot.reason.code ++ 0#2 ++ p.slot.result.code ++ p.slot.command.code ++ 0#3 ++
        BitVec.ofBool p.slot.busy) 0,
      place (0#21 ++ p.flags) 0, place (0#21 ++ p.enables) 0] := by
  subst port hceiling hhead hage
  simp only [List.map_cons, List.map_nil, State.valueAt, Port.status0, Port.status1, Slot.word, ageField, place_append]
  simp only [bit1, place_word, place_zero, Nat.reduceAdd, BitVec.or_zero, BitVec.zero_or, BitVec.or_assoc]

/-- The two words of an entry of the arbiter view (R184). -/
theorem WbaEntry.words_eq (e : WbaEntry) (age : Nat) : [e.word, ageField age] = [
    place (0#19 ++ BitVec.ofBool (e.fromDepth == .dormant) ++ 0#3 ++ BitVec.ofBool (e.cls == .urgent) ++ 0#1 ++
      BitVec.ofNat 3 e.port.val ++ 0#3 ++ 1#1) 0,
    place (BitVec.ofNat 32 (min age 4294967295)) 0] := by
  have present : bit1 true = 1#1 := rfl
  simp only [WbaEntry.word, WbaEntry.isUrgent, ageField, present, place_append]
  simp only [bit1, place_word, place_zero, Nat.reduceAdd, BitVec.or_zero, BitVec.zero_or, BitVec.or_assoc]

/-- The record of the device command: 1 and DONE after a SOFT_RESET (R183). -/
theorem State.valueAt_devCmd (s : State) : s.valueAt .devCmd = if s.dev.softResetDone = true then 0x101 else 0 := by
  simp only [State.valueAt]
  cases s.dev.softResetDone <;> rfl

/-- The words of the device page (R183). -/
theorem State.device_eq (s : State) :
    [.id0, .id1, .devCmd, .wbudget, .poolLow, .poolStatus, .wbaStatus, .devFlags, .devFlagEn, .portSummary,
      .budgetExceededCount].map s.valueAt = [
      place (width := 32) 0x5E180DA5 0, place (width := 32) 0x01 0,
      place (width := 32) (if s.dev.softResetDone = true then 0x101 else 0) 0,
      place (0#28 ++ BitVec.ofNat 4 s.wba.w) 0, place (0#16 ++ BitVec.ofNat 16 s.pool.low) 0,
      place (0#3 ++ BitVec.ofNat 13 s.sharedInUse ++ 0#3 ++ BitVec.ofNat 13 s.pool.free.length) 0,
      place (0#20 ++ BitVec.ofNat 4 s.wba.queue.length ++ 0#4 ++ BitVec.ofNat 4 s.wba.count) 0,
      place (0#29 ++ s.dev.flags) 0, place (0#29 ++ s.dev.enables) 0, place (0#24 ++ s.portSummary) 0,
      place s.dev.budgetExceeded 0] := by
  simp only [List.map_cons, List.map_nil, State.valueAt_devCmd]
  simp only [State.valueAt, place_append]
  simp only [place_word, place_zero, Nat.reduceAdd, BitVec.or_zero, BitVec.zero_or]

end Sys2Proof.Machine
end

section
/-! The accesses of the register window (R155, R158, R169, R175 to R187). -/

-- One theorem at a time: their elaboration side by side would each hold a thread and its stack.
set_option Elab.async false

namespace Sys2Proof.Machine

/-! ## Reads -/

section
variable {s : State} {n : PortId} {locs : List Location} {words : List Word}

/-- Reads of locations that stand one after the other from `start` on. -/
theorem exec_reads {f : Nat → Option Location} {start : Nat} (released : s.resetHeld = false)
    (stand : ∀ i < locs.length, locate (BitVec.ofNat 12 (start + 4 * i)) = f i)
    (run : (List.range locs.length).map f = locs.map some) (values : words = locs.map s.valueAt) (i : Nat) (w : Word)
    (at_ : words[i]? = some w) :
    exec (.faultyAccess (.read (BitVec.ofNat 12 (start + 4 * i)))) s = .next { s with readData := w } := by
  rw [values, List.getElem?_map, Option.map_eq_some_iff] at at_
  obtain ⟨l, here, rfl⟩ := at_
  obtain ⟨inside, -⟩ := List.getElem?_eq_some_iff.mp here
  exact exec_read_of_located released ((stand i inside).trans (stands_of_run run here))

/-- Reads of the words of a port page from word `k` on. -/
theorem exec_reads_port {c : Nat} (k : Nat) (released : s.resetHeld = false) (start : c = 4 * k) (page : k + locs.length ≤ 64)
    (run : (List.range locs.length).map (fun i => portWord n (k + i)) = locs.map some) (values : words = locs.map s.valueAt)
    (i : Nat) (w : Word) (at_ : words[i]? = some w) :
    exec (.faultyAccess (.read (BitVec.ofNat 12 (0x200 + n.val * 0x100 + c + 4 * i)))) s = .next { s with readData := w } := by
  refine exec_reads released (fun j inside => ?_) run values i w at_
  rw [start, show 0x200 + n.val * 0x100 + 4 * k + 4 * j = 0x200 + n.val * 0x100 + 4 * (k + j) by omega]
  exact locate_port (by omega)

/-- Reads of the two words of place `k` of the arbiter view. -/
theorem exec_reads_arbiter {k : Nat} (place_ : k < 8) (released : s.resetHeld = false)
    (values : words = [.arbPosA (Fin.ofNat 8 k), .arbPosB (Fin.ofNat 8 k)].map s.valueAt)
    (i : Nat) (w : Word) (at_ : words[i]? = some w) :
    exec (.faultyAccess (.read (BitVec.ofNat 12 (0x100 + 8 * k + 4 * i)))) s = .next { s with readData := w } := by
  refine exec_reads released (fun j inside => ?_) ?_ values i w at_
    (f := fun j => some (if j % 2 = 0 then .arbPosA (Fin.ofNat 8 k) else .arbPosB (Fin.ofNat 8 k)))
  · have inside' : j < 2 := inside
    rw [show 0x100 + 8 * k + 4 * j = 0x100 + 4 * (2 * k + j) by omega, locate_arbiter (by omega),
      show (2 * k + j) % 2 = j % 2 by omega, show (2 * k + j) / 2 = k by omega]
  · rfl

/-- The two words of a place of the arbiter view without an entry (R184). -/
theorem State.valueAt_arbiter_none {k : Nat} (place_ : k < 8) (none_ : s.wba.queue[k]? = none) :
    [.arbPosA (Fin.ofNat 8 k), .arbPosB (Fin.ofNat 8 k)].map s.valueAt = [0, 0] := by
  have val : (Fin.ofNat 8 k).val = k := Nat.mod_eq_of_lt place_
  simp only [List.map_cons, List.map_nil, State.valueAt, val, none_]

/-- The two words of a place of the arbiter view with an entry (R184). -/
theorem State.valueAt_arbiter_some {k : Nat} {e : WbaEntry} (place_ : k < 8) (entry : s.wba.queue[k]? = some e) :
    [.arbPosA (Fin.ofNat 8 k), .arbPosB (Fin.ofNat 8 k)].map s.valueAt = [e.word, ageField (s.now - e.entryTime)] := by
  have val : (Fin.ofNat 8 k).val = k := Nat.mod_eq_of_lt place_
  simp only [List.map_cons, List.map_nil, State.valueAt, val, entry]

/-- Reads of the words of the device page. -/
theorem exec_reads_device (released : s.resetHeld = false) (page : locs.length ≤ 64)
    (run : (List.range locs.length).map deviceWord = locs.map some) (values : words = locs.map s.valueAt) (i : Nat) (w : Word)
    (at_ : words[i]? = some w) : exec (.faultyAccess (.read (BitVec.ofNat 12 (0 + 4 * i)))) s = .next { s with readData := w } := by
  refine exec_reads released (fun j inside => ?_) run values i w at_
  rw [Nat.zero_add]
  exact locate_device (by omega)

end

/-! ## Writes -/

section
variable {s : State} {n : PortId} {offset : BitVec 12} {lanes : BitVec 4} {l : Location} {v : Word}

/-- A full write at a mapped offset (R182). -/
theorem exec_write_of_located (released : s.resetHeld = false) (found : locate offset = some l) :
    exec (.registerWrite offset v) s = .next (s.writeLocation l v) := by
  refine exec_to rfl released ?_
  rw [State.hostWrite, if_pos rfl, found]

/-- A full write at a word of a port page. -/
theorem exec_write_port {c : Nat} (k : Nat) (released : s.resetHeld = false) (start : c = 4 * k) (page : k < 64)
    (found : portWord n k = some l) :
    exec (.registerWrite (BitVec.ofNat 12 (0x200 + n.val * 0x100 + c)) v) s = .next (s.writeLocation l v) := by
  rw [start]
  exact exec_write_of_located released ((locate_port page).trans found)

/-- A full write at a word of the device page. -/
theorem exec_write_device {c : Nat} (k : Nat) (released : s.resetHeld = false) (start : c = 4 * k) (page : k < 64)
    (found : deviceWord k = some l) :
    exec (.registerWrite (BitVec.ofNat 12 c) v) s = .next (s.writeLocation l v) := by
  rw [start]
  exact exec_write_of_located released ((locate_device page).trans found)

/-- The command that a word written at the slot names, by its whole value (R158, R187). -/
def commandNamed (n : PortId) : Nat → Instr
  | 1 => .apply n
  | 2 => .forceWake n
  | 3 => .flush n
  | 4 => .sendAdvert n
  | 5 => .restoreCeiling n
  | 6 => .clearCounters n
  | 7 => .portReset n
  | _ => .unknownCommand n

/-- A command word is the command it names. -/
theorem exec_commandNamed (released : s.resetHeld = false) : exec (commandNamed n v.toNat) s = .next (s.commandWord n v) := by
  unfold State.commandWord
  match v.toNat with
  | 0 | 1 | 2 | 3 | 4 | 5 | 6 | 7 | k + 8 => exact running_of_released released _

theorem exec_cmd_write (released : s.resetHeld = false) :
    exec (.registerWrite (BitVec.ofNat 12 (0x200 + n.val * 0x100 + 0x68)) v) s = exec (commandNamed n v.toNat) s :=
  (exec_write_port 26 released rfl (by decide) rfl).trans (exec_commandNamed released).symm

/-- The device command, by the whole word (R169, R183). -/
theorem exec_devCmd_write (released : s.resetHeld = false) :
    exec (.registerWrite (BitVec.ofNat 12 0x008) v) s = exec (if v = 1 then .softReset else .devCmdInvalid) s := by
  have one : v.toNat = 1 ↔ v = 1 := by rw [← BitVec.toNat_inj]; rfl
  have written : exec (.registerWrite (BitVec.ofNat 12 0x008) v) s =
      .next (if v.toNat = 1 then s.softReset else s.accessError) :=
    exec_write_device 2 released rfl (by decide) rfl
  rw [written]
  by_cases h : v = 1
  · rw [if_pos (one.mpr h), if_pos h]
    exact (exec_of_released rfl released).symm
  · rw [if_neg (mt one.mp h), if_neg h]
    exact (exec_of_released rfl released).symm

theorem State.writeLocation_of_ro (ro : l.access = .ro) : s.writeLocation l v = s.accessError := by
  cases l <;> first | rfl | cases ro

/-- A write that reaches no location that takes writes sets ACCESS_ERROR and nothing else (R179). -/
theorem State.hostWrite_of_faulty (faulty : lanes ≠ 0b1111 ∨ ∀ l, locate offset = some l → l.access = .ro) :
    s.hostWrite offset lanes v = s.accessError := by
  unfold State.hostWrite
  split
  · rename_i full
    split
    · rename_i found
      exact State.writeLocation_of_ro ((faulty.resolve_left (not_not.mpr full)) _ found)
    · rfl
  · rfl

theorem exec_write_of_faulty (released : s.resetHeld = false)
    (faulty : lanes ≠ 0b1111 ∨ ∀ l, locate offset = some l → l.access = .ro) :
    exec (.faultyAccess (.write offset lanes v)) s = .next s.accessError :=
  exec_to (f := State.hostWrite offset lanes v) rfl released (State.hostWrite_of_faulty faulty)

end

/-! ## The window -/

/-- Settles O54: a read shows the run of locations that stand from an offset on, a write is what the location's owner
makes of it, and every other access is faulty. -/
theorem windowAccesses : Obligations.WindowAccesses := by
  intro n v s released p page writes reads full held inUse record la pa link ps rs ceiling advert head age command result
    reason status k device shows faulty unmapped readOnly
  have ceiling_eq : ceiling = BitVec.ofNat 2 p.dgv.ceiling.level := by
    simp only [ceiling]
    cases p.dgv.ceiling <;> rfl
  have head_eq : head = headStateCode p.txq.queue := by
    simp only [head]
    cases p.txq.queue <;> rfl
  have age_eq : age = p.headAge s.now := by
    simp only [age, Port.headAge]
    cases p.txq.queue <;> rfl
  have record_eq (c : PortConfig) :
      record c = [c.word 0, c.word 1, c.word 2, c.word 3, c.word 4, c.word 5, c.word 6, c.word 7] :=
    (map_place_word _).symm.trans (PortConfig.words_eq c).symm
  have la_eq (a : LaRecord) : la a = [a.word 0, a.word 1] := (map_place_word _).symm.trans (LaRecord.words_eq a).symm
  have pa_eq : pa = [p.adu.pa.word 0, p.adu.pa.word 1, p.adu.pa.word 2] :=
    (map_place_word _).symm.trans (PartnerRecord.words_eq _).symm
  have status_eq : status = [.status0 n, .status1 n, .headAge n, .cmd n, .slot n, .flags n, .flagEn n].map s.valueAt :=
    (map_place_word _).symm.trans (State.status_eq s n rfl ceiling_eq head_eq age_eq).symm
  have device_eq : device = [.id0, .id1, .devCmd, .wbudget, .poolLow, .poolStatus, .wbaStatus, .devFlags, .devFlagEn,
      .portSummary, .budgetExceededCount].map s.valueAt :=
    (map_place_word _).symm.trans (State.device_eq s).symm
  refine ⟨?device, ?vacant, ?entry, ?staging, ?live, ?laStaging, ?laLive, ?partner, ?status, ?counted, ?received, ?cmd, ?flags,
    ?flagEn, ?devCmd, ?wbudget, ?poolLow, ?devFlags, ?devFlagEn, fun _ => rfl, ?_, ?_, ?_, ?_, ?_, ?_, ?_, ?_, ?_, ?_,
    ?unmapped, ?lanes, ?readOnly⟩
  case device => exact exec_reads_device released (by decide) rfl device_eq
  case vacant =>
    intro i hi none_
    exact exec_reads_arbiter hi released (State.valueAt_arbiter_none hi none_).symm
  case entry =>
    intro i hi e entry
    exact exec_reads_arbiter hi released ((map_place_word _).symm.trans
      ((WbaEntry.words_eq e _).symm.trans (State.valueAt_arbiter_some hi entry).symm))
  case staging =>
    change shows (page + 0) (record p.staging)
    exact exec_reads_port (locs := [.cfgStaging n 0, .cfgStaging n 1, .cfgStaging n 2, .cfgStaging n 3, .cfgStaging n 4,
      .cfgStaging n 5, .cfgStaging n 6, .cfgStaging n 7]) 0 released rfl (by simp) rfl (record_eq _)
  case live =>
    exact exec_reads_port (locs := [.cfgLive n 0, .cfgLive n 1, .cfgLive n 2, .cfgLive n 3, .cfgLive n 4, .cfgLive n 5,
      .cfgLive n 6, .cfgLive n 7]) 8 released rfl (by simp) rfl (record_eq _)
  case laStaging =>
    exact exec_reads_port (locs := [.laStaging n 0, .laStaging n 1]) 16 released rfl (by simp) rfl (la_eq _)
  case laLive => exact exec_reads_port (locs := [.laLive n 0, .laLive n 1]) 18 released rfl (by simp) rfl (la_eq _)
  case partner => exact exec_reads_port (locs := [.pa n 0, .pa n 1, .pa n 2]) 20 released rfl (by simp) rfl pa_eq
  case status => exact exec_reads_port 23 released rfl (by simp) rfl status_eq
  case counted =>
    exact exec_reads_port (locs := [.admitted, .txFrames, .txBypass, .late, .discHoldoff, .discNolink, .discAbort, .discAged,
      .discFlush, .discLinkdown, .wakesLocal, .wakesPartner, .wakeFail, .offerTimeout, .refreshLoss].map (.counter n))
      32 released rfl (by simp) rfl rfl
  case received =>
    exact exec_reads_port (locs := [.rxFrames, .rxErr, .rxUnannounced, .mgmtDiscard, .resActive, .resDim, .resDeep,
      .resDormant].map (.counter n)) 48 released rfl (by simp) rfl rfl
  case cmd => exact exec_cmd_write released
  case flags => exact (exec_write_port 28 released rfl (by decide) rfl).trans (exec_of_released rfl released).symm
  case flagEn => exact (exec_write_port 29 released rfl (by decide) rfl).trans (exec_of_released rfl released).symm
  case devCmd => exact exec_devCmd_write released
  case wbudget => exact (exec_write_device 3 released rfl (by decide) rfl).trans (exec_of_released rfl released).symm
  case poolLow => exact (exec_write_device 4 released rfl (by decide) rfl).trans (exec_of_released rfl released).symm
  case devFlags => exact (exec_write_device 7 released rfl (by decide) rfl).trans (exec_of_released rfl released).symm
  case devFlagEn => exact (exec_write_device 8 released rfl (by decide) rfl).trans (exec_of_released rfl released).symm
  case unmapped =>
    intro offset gap
    have none_ : locate offset = none := locate_of_unmapped gap
    refine ⟨exec_read_of_unmapped released none_, fun lanes => exec_write_of_faulty released (.inr fun l found => ?_)⟩
    rw [none_] at found
    cases found
  case lanes => exact fun offset lanes some_ => exec_write_of_faulty released (.inl some_)
  case readOnly =>
    rintro offset ⟨-, at_⟩
    have refused : exec (.faultyAccess (.write offset 0b1111 v)) s = .next faulty :=
      exec_write_of_faulty released (.inr fun l => access_of_readOnlyAt at_)
    exact ⟨refused, refused⟩
  · exact exec_write_port 0 released rfl (by decide) rfl
  · exact exec_write_port 1 released rfl (by decide) rfl
  · exact exec_write_port 2 released rfl (by decide) rfl
  · exact exec_write_port 3 released rfl (by decide) rfl
  · exact exec_write_port 4 released rfl (by decide) rfl
  · exact exec_write_port 5 released rfl (by decide) rfl
  · exact exec_write_port 6 released rfl (by decide) rfl
  · exact exec_write_port 7 released rfl (by decide) rfl
  · exact exec_write_port 16 released rfl (by decide) rfl
  · exact exec_write_port 17 released rfl (by decide) rfl

end Sys2Proof.Machine
end
